-- ==== Sys2Proof/Word.lean ====
section
/-! DEFINITION. Word.lean: the machine's word types. Every value that crosses one of the part's
serial lines is a byte or a little-endian group of bytes (spec/13, R195); values that wrap or
saturate at a fixed width are bit vectors of that width, counts and lengths are natural numbers. -/

namespace Sys2Proof

/-- One byte of a serial line, of a text or of a template. -/
abbrev Byte := BitVec 8

/-- A strip number: 1 to 65535, and 0 for a phantom (R5). -/
abbrev StripNo := BitVec 16

/-- A value of the travel counter, in millimetres modulo 2^32 (R1). -/
abbrev Travel := BitVec 32

/-- A 16-bit counter that saturates at 65,535 (R56, R80, R90, R113, R130, R164, R177, R187, R192). -/
abbrev Count16 := BitVec 16

/-- A 32-bit line statistic that wraps modulo 2^32 (R20). -/
abbrev Count32 := BitVec 32

/-- A head, H1 to H6: head n is index n - 1 (R93). -/
abbrev Head := Fin 6

/-- A bay, 1 to 12: bay n is index n - 1 (R115). -/
abbrev Bay := Fin 12

end Sys2Proof
end

