-- ==== Sys2Proof/Syntax.lean ====
section
/-! DEFINITION. Syntax.lean: the commands of the part, one constructor for each row of
spec/opcode_table.json, with the operands each needs (the table gives no operands and no bits; see
notes/assumptions/1.md). A request carries its tag and its body as the frame of R179 brings them. -/

namespace Sys2Proof

/-- The two quadrature inputs of the feed conveyor's encoder (R1). -/
inductive EncoderInput where
  | encA | encB
  deriving DecidableEq, Repr

/-- The two photo-eyes (spec/01, 1.2). -/
inductive Eye where
  | eyeIn | eyeCk
  deriving DecidableEq, Repr

/-- The three field lines (spec/00, 0.5). -/
inductive FieldLine where
  | scanner | saw | printer
  deriving DecidableEq, Repr

/-- What made a hardware reset: the supply came up, or RESET was driven low (R193 step 1). -/
inductive ResetSource where
  | power | pin
  deriving DecidableEq, Repr

/-- The two host-line rates the BAUD strap selects (spec/11). -/
inductive Baud where
  | b115200 | b460800
  deriving DecidableEq, Repr

/-- The fail-safe mode the FSEL strap selects (R37). -/
inductive FailSafeMode where
  | drain | continue
  deriving DecidableEq, Repr

/-- The completion of a converter conversion: the serial of the conversion that completes, and its 10-bit
result (R95). -/
structure ConversionResult where
  conversion : Nat
  value : BitVec 10
  deriving DecidableEq, Repr

/-- The commands: what the outside world, the part's clock and the part's own engines can do to the
block, one constructor for each row of spec/opcode_table.json. The completion of an evaluation or a
conversion names the one that completes by the model's serial (notes/assumptions/21.md). -/
inductive Instr where
  -- wires and clocks
  | encoderCount (input : EncoderInput)
  | eyeInputChange (eye : Eye) (blocked : Bool)
  | speedIntervalEnd
  | keepaliveWindowExpiry
  | guardInputChange (high : Bool)
  | guardEdgeAccepted
  | guardWindowExpiry
  | lampABlink
  | lampGDim
  -- scanner line
  | scannerStart (strip : StripNo)
  | defect (kind : Byte) (position extent : BitVec 16) (severity : Byte)
  | scannerEnd (strip : StripNo) (count : Byte)
  -- any field line
  | fieldFrameDiscarded (line : FieldLine)
  | fieldGapTimeout (line : FieldLine)
  -- engines and the saw line
  | evaluationCompletion (evaluation : Nat)
  | sawDone (strip : StripNo)
  | sawFault (strip : StripNo) (code : Byte)
  | conversionCompletion (result : ConversionResult)
  | temperatureTimer
  | temperatureStale
  -- the steps of a composition
  | stepText
  | stepLoad
  | stepDigits
  | stepForce
  | stepMark
  | stepPut
  | stepFill
  | stepSetchar
  | stepCopy
  | stepBlankzero
  | stepLine
  | stepEnd
  -- printer line
  | printerReady
  | printed (bundle : BitVec 32)
  | applied (bundle : BitVec 32)
  | printerFault (bundle : BitVec 32) (code : Byte)
  | applyTimeout
  -- requests of the host
  | status (tag : Byte) (body : List Byte)
  | run (tag : Byte) (body : List Byte)
  | stop (tag : Byte) (body : List Byte)
  | hold (tag : Byte) (body : List Byte)
  | release (tag : Byte) (body : List Byte)
  | resume (tag : Byte) (body : List Byte)
  | keepalive (tag : Byte) (body : List Byte)
  | alarmClear (tag : Byte) (body : List Byte)
  | trackRead (tag : Byte) (body : List Byte)
  | scannerRead (tag : Byte) (body : List Byte)
  | gradingRead (tag : Byte) (body : List Byte)
  | sawRead (tag : Byte) (body : List Byte)
  | headRead (tag : Byte) (body : List Byte)
  | headClear (tag : Byte) (body : List Byte)
  | headCheck (tag : Byte) (body : List Byte)
  | bayRead (tag : Byte) (body : List Byte)
  | baySet (tag : Byte) (body : List Byte)
  | binEmptied (tag : Byte) (body : List Byte)
  | bundleRead (tag : Byte) (body : List Byte)
  | bayClose (tag : Byte) (body : List Byte)
  | lotSet (tag : Byte) (body : List Byte)
  | nextNumber (tag : Byte) (body : List Byte)
  | templateWrite (tag : Byte) (body : List Byte)
  | labelRead (tag : Byte) (body : List Byte)
  | printerOffline (tag : Byte) (body : List Byte)
  | printerOnline (tag : Byte) (body : List Byte)
  | reprint (tag : Byte) (body : List Byte)
  | releaseUnlabelled (tag : Byte) (body : List Byte)
  | printerRead (tag : Byte) (body : List Byte)
  | noticeMask (tag : Byte) (body : List Byte)
  | linkRead (tag : Byte) (body : List Byte)
  | configRead (tag : Byte) (body : List Byte)
  | configWrite (tag : Byte) (body : List Byte)
  | save (tag : Byte) (body : List Byte)
  -- the store, restarts and resets
  | saveCompletion (readBack : BitVec 16)
  | restart (tag : Byte) (body : List Byte)
  | restartExecute
  | hardwareReset (source : ResetSource) (baud : Baud) (fsel : FailSafeMode)
  -- the host line and the rest
  | unknownRequest (kind tag : Byte) (body : List Byte)
  | hostFrameDiscarded
  | hostGapTimeout
  | transmitComplete
  | hostByteArrival (byte : Byte)
  | fieldByteArrival (line : FieldLine) (byte : Byte)
  | overrun
  | badstep
  | lossOfPower
  deriving DecidableEq, Repr

end Sys2Proof
end

