-- ==== Sys2Proof/Decode.lean ====
section
/-! DEFINITION. Decode.lean: commands from words and from frames. spec/opcode_table.json gives no row any
bits (every row's fields are empty), so no word spells a command (notes/assumptions/1.md). A host frame
spells one by its kind byte (spec/13, 13.1); the receiver that takes frames apart byte by byte is in
Machine/Link.lean. -/

namespace Sys2Proof

/-- The command that a word spells by the table's bits: none, since no row has any. -/
def decodeTableWord (_nbits _w : Nat) : Option Instr := none

/-- The row that a good host frame of a kind, tag and body is (R182; spec/13, 13.1). -/
def commandOfFrame (kind tag : Byte) (body : List Byte) : Instr :=
  match kind.toNat with
  | 0x01 => .status tag body
  | 0x02 => .run tag body
  | 0x03 => .stop tag body
  | 0x04 => .hold tag body
  | 0x05 => .release tag body
  | 0x06 => .resume tag body
  | 0x07 => .keepalive tag body
  | 0x08 => .alarmClear tag body
  | 0x10 => .trackRead tag body
  | 0x11 => .scannerRead tag body
  | 0x12 => .gradingRead tag body
  | 0x13 => .sawRead tag body
  | 0x14 => .headRead tag body
  | 0x15 => .headClear tag body
  | 0x16 => .headCheck tag body
  | 0x18 => .bayRead tag body
  | 0x19 => .baySet tag body
  | 0x1A => .binEmptied tag body
  | 0x1C => .bundleRead tag body
  | 0x1D => .bayClose tag body
  | 0x1E => .lotSet tag body
  | 0x1F => .nextNumber tag body
  | 0x20 => .templateWrite tag body
  | 0x21 => .labelRead tag body
  | 0x24 => .printerOffline tag body
  | 0x25 => .printerOnline tag body
  | 0x26 => .reprint tag body
  | 0x27 => .releaseUnlabelled tag body
  | 0x28 => .printerRead tag body
  | 0x2C => .noticeMask tag body
  | 0x2D => .linkRead tag body
  | 0x30 => .configRead tag body
  | 0x31 => .configWrite tag body
  | 0x32 => .save tag body
  | 0x33 => .restart tag body
  | _ => .unknownRequest kind tag body

/-- The body size of a request kind of fixed size (spec/13, 13.1); none for CONFIG WRITE and TEMPLATE
WRITE, whose owners test it, and for a kind that names no request (R182). -/
def fixedBodySize (kind : Byte) : Option Nat :=
  match kind.toNat with
  | 0x01 | 0x02 | 0x03 | 0x04 | 0x05 | 0x06 | 0x07 | 0x08 => some 0
  | 0x10 => some 1
  | 0x11 | 0x12 | 0x13 | 0x14 | 0x15 | 0x16 | 0x18 => some 0
  | 0x19 => some 4
  | 0x1A | 0x1C | 0x1D => some 1
  | 0x1E => some 22
  | 0x1F => some 4
  | 0x21 | 0x24 | 0x25 => some 0
  | 0x26 | 0x27 => some 1
  | 0x28 => some 0
  | 0x2C => some 3
  | 0x2D => some 0
  | 0x30 => some 1
  | 0x32 | 0x33 => some 0
  | _ => none

end Sys2Proof
end

