-- ==== Sys2Proof/Config.lean ====
section
/-! DEFINITION. Config.lean: the values the spec leaves open. Each is a constant with no body, so no
proof can see what it is and every claim holds whatever it is. -/

namespace Sys2Proof

/-- R183: "When the line is free and a reply and a notice become ready together, the outcome follows
which the arbiter takes first." True: the reply is taken first at the n-th such moment.
DESIGN CHOICE (safe): a free value, notes/assumptions/22.md. -/
opaque Config.arbiterTakesReply : Nat → Bool

/-- R177 gives the time left on the apply timer in milliseconds and does not say whether a part of a
millisecond counts. True: a time of n quarter-milliseconds that is no whole number of milliseconds
is reported as the next whole number. DESIGN CHOICE (safe): a free value, notes/assumptions/24.md. -/
opaque Config.partMillisecondCounts : Nat → Bool

end Sys2Proof
end

