-- ==== Sys2Proof/Machine/Settings.lean ====
section
/-! DEFINITION. Machine/Settings.lean: the working configuration, section by section (R189), and the
factory defaults (spec/12, 12.1). -/

namespace Sys2Proof.Machine

/-- The LINE section (R189; R1, R3, R13, R62, R93, R151). -/
structure LineSettings where
  countsPerMm : Nat
  eyeInFilter : Nat
  eyeCkFilter : Nat
  psc : Nat
  pmo : Nat
  pdp : Nat
  pem : Nat
  pck : Nat
  psa : Nat
  pb : Vector Nat 12
  pend : Nat
  checkTolerance : Nat
  settle : Nat
  width : Nat
  lineName : List Byte
  deriving DecidableEq, Repr

/-- The CLASSES section: minimum length M, step S, class count N (R59). -/
structure ClassSettings where
  m : Nat
  s : Nat
  n : Nat
  deriving DecidableEq, Repr

/-- One grade's limits for one defect kind (R60). -/
structure Limit where
  sevMax : Nat
  cntMax : Nat
  deriving DecidableEq, Repr

/-- One grade: its 12-character name and its limits for the six defect kinds (R60). -/
structure Grade where
  name : List Byte
  limits : Vector Limit 6
  deriving DecidableEq, Repr

/-- The GRADES section: G and the eight grades (R60). -/
structure GradeSettings where
  count : Nat
  grades : Vector Grade 8
  deriving DecidableEq, Repr

/-- The CUTTING section (R62). -/
structure CuttingSettings where
  tg : Nat
  h0 : Nat
  t0 : Nat
  q : Nat
  deriving DecidableEq, Repr

/-- What a head's latched fault does to the line (R93, R104). -/
inductive Policy where
  | isolate | stop
  deriving DecidableEq, Repr

/-- The nine settings of one head (R93). -/
structure HeadSettings where
  enabled : Bool
  diagnostics : Bool
  masked : Bool
  policy : Policy
  cutAbsent : Nat
  overload : Nat
  idleMin : Nat
  idleMax : Nat
  confirm : Nat
  deriving DecidableEq, Repr

/-- The HEADS section: the six heads, the minimum speed and the temperature settings (R93, R107). -/
structure HeadsSettings where
  head : Vector HeadSettings 6
  minSpeed : Nat
  preWarning : Nat
  shutdown : Nat
  hysteresis : Nat
  deriving DecidableEq, Repr

/-- The key of a graded bay: grade 1 to 8 and class 0 to 15 (R115). -/
structure Key where
  grade : Nat
  cls : Nat
  deriving DecidableEq, Repr

/-- A bay's role, with the key a GRADED bay carries (R115). -/
inductive Role where
  | graded (key : Key)
  | regrade
  | mixed
  | disabled
  deriving DecidableEq, Repr

/-- The BUNDLING section (R125, R133). -/
structure BundlingSettings where
  target : Nat
  maxStrips : Nat
  closeAtRunEnd : Bool
  capacity : Vector Nat 12
  chuteCapacity : Nat
  deriving DecidableEq, Repr

/-- The keep-alive period P (R33), in the order of its codes (spec/13, 13.7). -/
inductive Period where
  | ms100 | ms200 | ms500 | ms1000 | ms2000 | off
  deriving DecidableEq, Repr

/-- The SUPERVISION section (R33, R39). -/
structure SupervisionSettings where
  period : Period
  guardEnable : Bool
  deriving DecidableEq, Repr

/-- The LABEL section: label slot (slot n is index n - 1), apply timeout in seconds, substitute
character (R147, R151, R168). -/
structure LabelSettings where
  slot : Fin 8
  applyTimeout : Nat
  substitute : Byte
  deriving DecidableEq, Repr

/-- The whole working configuration (R189). `prices[g][c]` is the price of grade g + 1 and class c
(R61); `translate` holds one printer code for each internal code (R150); bit c of `allowed` says
whether code c is admitted (R151). -/
structure WorkingConfig where
  line : LineSettings
  classes : ClassSettings
  grades : GradeSettings
  prices : Vector (Vector Nat 16) 8
  cutting : CuttingSettings
  heads : HeadsSettings
  bays : Vector Role 12
  bundling : BundlingSettings
  supervision : SupervisionSettings
  label : LabelSettings
  templates : Vector (List Byte) 8
  translate : List Byte
  allowed : BitVec 256
  deriving DecidableEq, Repr

/-- The character code of a space. -/
def space : Byte := 32

/-- A text of n spaces. -/
def spaces (n : Nat) : List Byte := List.replicate n space

/-- The default of one head's settings (R93). -/
def factoryHead : HeadSettings :=
  { enabled := true, diagnostics := true, masked := false, policy := .isolate, cutAbsent := 40,
    overload := 900, idleMin := 10, idleMax := 200, confirm := 2 }

/-- The factory defaults. The station points, G and the templates are R189's; the others are those of
the owning chapters. The spec states none for counts per mm, the line name and the bay roles:
DESIGN CHOICE 1, eight spaces and DISABLED (notes/assumptions/7.md). -/
def factoryDefaults : WorkingConfig :=
  { line :=
      { countsPerMm := 1, eyeInFilter := 3, eyeCkFilter := 3, psc := 0, pmo := 0, pdp := 0, pem := 0,
        pck := 0, psa := 0, pb := Vector.replicate 12 0, pend := 0, checkTolerance := 20,
        settle := 60, width := 70, lineName := spaces 8 }
    classes := { m := 300, s := 100, n := 1 }
    grades :=
      { count := 0
        grades := Vector.replicate 8
          { name := spaces 12, limits := Vector.replicate 6 { sevMax := 0, cntMax := 0 } } }
    prices := Vector.replicate 8 (Vector.replicate 16 0)
    cutting := { tg := 6, h0 := 10, t0 := 10, q := 10 }
    heads :=
      { head := Vector.replicate 6 factoryHead, minSpeed := 15, preWarning := 120, shutdown := 150,
        hysteresis := 10 }
    bays := Vector.replicate 12 .disabled
    bundling :=
      { target := 2000, maxStrips := 60, closeAtRunEnd := true, capacity := Vector.replicate 12 100,
        chuteCapacity := 200 }
    supervision := { period := .ms1000, guardEnable := false }
    label := { slot := 0, applyTimeout := 20, substitute := 63 }
    templates := Vector.replicate 8 []
    translate := (List.range 256).map (BitVec.ofNat 8)
    allowed := ((1 <<< 95) - 1) <<< 32 }

end Sys2Proof.Machine
end

