-- ==== Sys2Proof/Machine/Records.lean ====
section
/-! DEFINITION. Machine/Records.lean: the records the blocks keep and the events they report: strip
records (R8), hold sources and alarms (R25, R40), converter requests (R95), bundles and dispatch
records (R132, R141), labels (R161), notices (R184). Enumerations list their values in the order of
the owning chapter's table, which is the order of their codes (R195). -/

namespace Sys2Proof.Machine

/-! ### Strip records -/

inductive Origin where
  | admitted | phantom
  deriving DecidableEq, Repr

inductive CheckMark where
  | unchecked | matched
  deriving DecidableEq, Repr

inductive ScanState where
  | none | announced | receiving | complete | truncated | incomplete | missed
  deriving DecidableEq, Repr

/-- One defect as the scanner gave it; `kind` is 1 knot to 6 pith (spec/03, 3.1). -/
structure Defect where
  kind : Nat
  position : Nat
  extent : Nat
  severity : Nat
  deriving DecidableEq, Repr

inductive EvalState where
  | notQueued | queued | evaluating | done | abandoned
  deriving DecidableEq, Repr

/-- The reasons of plans and routes, which share one table of codes, 1 to 10 (spec/13, 13.3). -/
inductive Reason where
  | late | noscan | unrated | short | noValue | joined | phantom | sawFault | cutUnconfirmed | suspect
  deriving DecidableEq, Repr

/-- A cut plan, and the result of an evaluation, which is GRADED or PASS (R66, R75, R76, R78). -/
inductive CutPlan where
  | graded (cls grade headOffset rawLength merit : Nat)
  | default (reason : Reason) (cls headOffset rawLength : Nat)
  | pass (reason : Reason)
  deriving DecidableEq, Repr

inductive CutState where
  | none | ordered | confirmed | unconfirmed | faulted
  deriving DecidableEq, Repr

inductive Route where
  | graded (grade cls : Nat)
  | regrade (reason : Reason)
  | reject (reason : Reason)
  deriving DecidableEq, Repr

/-- The bay field of a record: a bay with its destination kind, or END CHUTE (R8, R120). -/
inductive Destination where
  | gradedBay (bay : Bay)
  | regradeBin (bay : Bay)
  | mixedBin (bay : Bay)
  | endChute
  deriving DecidableEq, Repr

/-- The passing events of R12's table. -/
inductive PassEvent where
  | pscLead | pmoSettleLead | pdpLead | pemLead | pemSettleLead | psaLead | pbLead
  | pmoTrail | pemTrail | pbTrail | pendTrail
  deriving DecidableEq, Repr

/-- A strip record (R8). `serial` is the model's own: it tells records apart, phantoms too, and is
never reported. `result` is the evaluation's result, held with the evaluation state (R66). `raised`
lists the passing events already raised (R12), and `createdAt` is the leading-edge position at which
a phantom was made (R12, R15). `joinWaits` is the model's own: R7's moment came with a trailing-edge
change pending, and the JOINED test waits for the filter's outcome. -/
structure Strip where
  serial : Nat
  number : StripNo
  origin : Origin
  admission : Travel
  adjustment : BitVec 32
  infeed : Option Nat
  joined : Bool
  joinWaits : Bool
  current : Option Nat
  check : CheckMark
  scan : ScanState
  defects : Option (List Defect)
  eval : EvalState
  result : Option CutPlan
  plan : Option CutPlan
  cut : CutState
  suspect : Option Head
  route : Option Route
  bay : Option Destination
  raised : List PassEvent
  createdAt : Option Int
  deriving DecidableEq, Repr

/-- The ten line statistics (R20). -/
structure Statistics where
  admitted : Count32 := 0
  phantom : Count32 := 0
  lost : Count32 := 0
  bundled : Count32 := 0
  regrade : Count32 := 0
  mixed : Count32 := 0
  reject : Count32 := 0
  lateDecisions : Count32 := 0
  cutUnconfirmed : Count32 := 0
  scannerFaults : Count32 := 0
  deriving DecidableEq, Repr

/-- A pending change of an eye (R3): its start position, and whether GATE-IN was open there (R4). -/
structure PendingChange where
  start : Travel
  gateOpen : Bool
  deriving DecidableEq, Repr

/-- An eye: its input level (true: blocked), its accepted level and its pending change (R3). `fromReset`
is the model's own: the input has stood at its level since the reset, at which GATE-IN was closed (R3's
note). -/
structure EyeFilter where
  input : Bool
  fromReset : Bool
  accepted : Bool
  pending : Option PendingChange
  deriving DecidableEq, Repr

/-- The accepted EYE-CK leading edge in hand: none; accepted at E and not yet judged; or judged, with
the record it matched or created (none for an untracked phantom) (R13, R14, R17). -/
inductive CkEdge where
  | none
  | awaiting (e : Travel)
  | judged (e : Travel) (record : Option Nat)
  deriving DecidableEq, Repr

/-! ### Supervision -/

inductive LineState where
  | start | ready | run | hold | stopping | failsafe
  deriving DecidableEq, Repr

/-- The hold sources in the order of R25's table. -/
inductive HoldSource where
  | host | guard | trackFull | temp | head | check | bin
  deriving DecidableEq, Repr

/-- Every hold source, in the order of R25's table. -/
def HoldSource.all : List HoldSource := [.host, .guard, .trackFull, .temp, .head, .check, .bin]

/-- The alarms of R40. -/
inductive Alarm where
  | keepAlive | guard | head (n : Head) | temp | saw | config
  deriving DecidableEq, Repr

/-- Every alarm, in the order of R40's table and by index within HEAD. -/
def Alarm.all : List Alarm :=
  [.keepAlive, .guard, .head 0, .head 1, .head 2, .head 3, .head 4, .head 5, .temp, .saw, .config]

inductive ResetCause where
  | power | pin | restart
  deriving DecidableEq, Repr

/-- The keep-alive window (R33): its kind, its start, and a NORMAL window's period in milliseconds. -/
inductive Window where
  | none
  | normal (start period : Nat)
  | long (start : Nat)
  deriving DecidableEq, Repr

/-- The guard monitor (R39): INACTIVE, WATCHING with the moment its window expires, or LAPSED. -/
inductive GuardMonitor where
  | inactive
  | watching (expiry : Nat)
  | lapsed
  deriving DecidableEq, Repr

/-- A phase of a lamp's cycle: lit or dark, and the moment it ends (R42, R43). -/
structure LampPhase where
  lit : Bool
  ends : Nat
  deriving DecidableEq, Repr

/-! ### Scanner, grading, saw -/

inductive Reception where
  | idle | receiving | discarding
  deriving DecidableEq, Repr

/-- What an evaluation takes at its beginning (R63, R65). `serial` is the model's own: it tells this
evaluation's completion from that of one abandoned at Pdp or by a reset (R77, R81). -/
structure EvalInputs where
  serial : Nat
  strip : StripNo
  length : Nat
  defects : List Defect
  classes : ClassSettings
  grades : GradeSettings
  prices : Vector (Vector Nat 16) 8
  cutting : CuttingSettings
  deriving DecidableEq, Repr

/-- The last evaluation (R66). -/
structure LastEvaluation where
  strip : StripNo
  windows : Nat
  result : CutPlan
  deriving DecidableEq, Repr

/-- The case of a late decision (R79). -/
inductive LateCase where
  | inFlight | queued | queueFull
  deriving DecidableEq, Repr

/-- An outstanding order: PASS, or CUT with its head offset and raw length as sent (R83). -/
inductive OrderForm where
  | cut (headOffset rawLength : Nat)
  | pass
  deriving DecidableEq, Repr

structure Order where
  strip : StripNo
  form : OrderForm
  deriving DecidableEq, Repr

/-! ### Heads -/

inductive Verdict where
  | none | good | bad
  deriving DecidableEq, Repr

inductive HeadFault where
  | cutAbsent | overload
  deriving DecidableEq, Repr

inductive CheckResult where
  | ok | notRunning | idleDrag
  deriving DecidableEq, Repr

/-- The fault detail of a head record (R93, R102). -/
structure FaultDetail where
  stripAtLatch : StripNo
  lastGoodAtLatch : Option StripNo
  suspects : Count16
  escaped : Count16
  deriving DecidableEq, Repr

/-- The state fields of a head record (R93). -/
structure HeadRecord where
  badCount : Nat := 0
  verdict : Verdict := .none
  latched : Option HeadFault := none
  lastGood : Option StripNo := none
  detail : Option FaultDetail := none
  lastLoad : Option Nat := none
  peak : Nat := 0
  checkResult : Option CheckResult := none
  deriving DecidableEq, Repr

/-- A converter request (R95). -/
inductive ConvRequest where
  | endMatch (strip : StripNo) (head : Head)
  | moulder (strip : StripNo) (head : Head)
  | check (head : Head)
  | temperature
  deriving DecidableEq, Repr

/-- The conversion in flight: its request, and the HEADS settings it began with (R94, R96). `serial` is
the model's own: it tells this conversion's completion from that of one a reset abandoned (R114). -/
structure Conversion where
  serial : Nat
  request : ConvRequest
  settings : HeadsSettings
  deriving DecidableEq, Repr

inductive OffLineCheck where
  | idle | running | done
  deriving DecidableEq, Repr

/-! ### Bays and bundles -/

inductive BayState where
  | opened | filled | closing | blocked
  deriving DecidableEq, Repr

/-- The bay table's own fields of one bay (R115). -/
structure BayEntry where
  state : Option BayState
  occupancy : Count16
  inTransit : Nat
  overGate : Nat
  deriving DecidableEq, Repr

inductive CloseReason where
  | target | count | host | runEnd
  deriving DecidableEq, Repr

/-- The limits of a bundle, taken at its first commitment (R134). -/
structure BundleLimits where
  nominal : Nat
  width : Nat
  target : Nat
  maxStrips : Nat
  deriving DecidableEq, Repr

/-- The open bundle of a graded bay (R132). -/
structure OpenBundle where
  key : Key
  limits : Option BundleLimits
  committed : Nat
  committedArea : Nat
  dropped : Nat
  droppedArea : Nat
  first : Option StripNo
  last : Option StripNo
  lot : Option (List Byte)
  closeReason : Option CloseReason
  deriving DecidableEq, Repr

/-- The faults of a composition (R162), in the order of their codes, which start at 1 (spec/13, 13.4). -/
inductive TemplateFault where
  | overrun | long | exhausted | badStep
  deriving DecidableEq, Repr

/-- Why a label failed (R142). -/
inductive FailCause where
  | template (fault : TemplateFault)
  | printer (code : Byte)
  | timeout
  deriving DecidableEq, Repr

/-- The label state of a dispatch record (R142). -/
inductive LabelState where
  | requested | composing | queued | sent | printed | applied
  | failed (cause : FailCause)
  deriving DecidableEq, Repr

/-- A dispatch record (R141). -/
structure DispatchRecord where
  number : Nat
  bay : Bay
  grade : Nat
  nominal : Nat
  width : Nat
  count : Nat
  area : Nat
  first : StripNo
  last : StripNo
  lot : List Byte
  date : List Byte
  reason : CloseReason
  label : LabelState
  reprints : Nat
  overflowed : Bool
  deriving DecidableEq, Repr

/-! ### Labels and the printer -/

/-- The four special characters (R149). -/
structure Specials where
  fill : Byte := 32
  point : Byte := 46
  overflow : Byte := 42
  separator : Byte := 45
  deriving DecidableEq, Repr

/-- The composition in flight: what it took at its beginning (R153) and its working state (R154). -/
structure Composition where
  record : DispatchRecord
  slot : Fin 8
  template : List Byte
  gradeName : List Byte
  lineName : List Byte
  output : List Byte := []
  cursor : Nat := 0
  digits : List Nat := []
  remaining : Nat := 0
  overflowed : Bool := false
  loaded : Bool := false
  significance : Bool := false
  zero : Bool := false
  loadMark : Nat := 0
  specials : Specials := {}
  overflowSeen : Option Nat := none
  deriving DecidableEq, Repr

/-- A label in the label queue (R161). `bay` is the model's link to the label's dispatch record
(R163); two records may carry one bundle number (R139). -/
structure Label where
  number : Nat
  bay : Bay
  text : List Byte
  printed : Bool
  deriving DecidableEq, Repr

/-- The composer's last fault (R162). -/
structure LastFault where
  fault : TemplateFault
  slot : Fin 8
  cursor : Nat
  deriving DecidableEq, Repr

/-! ### Serial lines -/

/-- A receiver of a framed line (R180, R46): hunting, waiting for the length, collecting the bytes a
frame's length counts, or waiting for its check. -/
inductive RxStage where
  | hunt
  | length
  | collect (len : Nat) (kept : List Byte)
  | check (len : Nat) (kept : List Byte)
  deriving DecidableEq, Repr

/-- A receiver and the moment its last byte arrived. -/
structure Receiver where
  stage : RxStage := .hunt
  lastByte : Nat := 0
  deriving DecidableEq, Repr

/-- The refusal codes (R182), in the order of their codes, which start at 1 (spec/13, 13.1). -/
inductive Refuse where
  | unknown | length | range | state | busy | invalid | notFound
  deriving DecidableEq, Repr

/-- What an owner answers a request with (R182). -/
inductive Answer where
  | accepted (body : List Byte)
  | refused (code : Refuse) (detail : Nat)
  deriving DecidableEq, Repr

/-- An entry of the reply list (R181). `inHand` marks the reply of the request in hand; the others are
the BUSY refusals. -/
structure Reply where
  kind : Byte
  tag : Byte
  answer : Answer
  inHand : Bool
  deriving DecidableEq, Repr

/-- The transmit side of the host line (R183): free, or sending a frame. -/
inductive Transmitter where
  | free
  | reply (frame : List Byte)
  | notice (frame : List Byte)
  deriving DecidableEq, Repr

/-! ### Notices -/

/-- The 32 notice sources (R184). -/
inductive Source where
  | lineState | holdEffective | keepAlive | guard | tempWarning | tempShutdown | head (n : Head)
  | checkDone | bay (b : Bay) | rejectChute | scanner | saw | track | lateDecision | configuration
  | printer
  deriving DecidableEq, Repr

/-- The events of the notice sources, each with the detail its owning rule names (R184). -/
inductive Notice where
  | state (st : LineState)
  | effective
  | early (st : LineState)
  | late (st : LineState)
  | guardExpired
  | guardRestored
  | warning (reading : Nat)
  | warningCleared (reading : Nat)
  | shutdown (reading : Nat)
  | shutdownRestored (reading : Nat)
  | headFault (n : Head) (fault : HeadFault) (detail : FaultDetail)
  | headEscaped (n : Head) (strip : StripNo)
  | checkDone (results : Vector (Option CheckResult) 6)
  | closed (b : Bay) (number : Nat) (reason : CloseReason) (count area : Nat)
  | dispatched (b : Bay) (record : DispatchRecord)
  | failedTemplate (b : Bay) (number : Nat) (fault : LastFault)
  | failedPrinter (b : Bay) (number : Nat) (code : Byte)
  | failedTimeout (b : Bay) (number : Nat)
  | released (b : Bay) (record : DispatchRecord)
  | lateApply (b : Bay) (number : Nat)
  | fieldOverflow (b : Bay) (number field : Nat)
  | chuteFull (occupancy : Count16)
  | chuteEmptied (occupancy : Count16)
  | chuteFallback (strip : StripNo) (route : Route)
  | scannerLine
  | missed (count : Nat) (strip : StripNo)
  | unmatched (strip : StripNo)
  | tooLate (strip : StripNo)
  | sequence (strip : Option StripNo)
  | sawLine
  | sawFault (strip : StripNo) (code : Byte)
  | unconfirmed (strip : StripNo)
  | lateReply (strip : StripNo)
  | sawStray (strip : StripNo)
  | lost (strip : StripNo)
  | phantom (position : Int)
  | phantomUntracked
  | lateDecision (strip : StripNo) (lateCase : LateCase)
  | loaded
  | defaults
  | saved
  | saveFailed
  | printerLine
  | printerStray (kind : Byte) (number : BitVec 32)
  | printerIdle (queued : Option Nat)
  deriving DecidableEq, Repr

/-- An entry of the notice queue (R184): its source, its event set, its latest event with the detail,
and its repeat count. -/
structure NoticeEntry where
  source : Source
  events : BitVec 8
  latest : Notice
  repeats : Nat
  deriving DecidableEq, Repr

/-- Where a RESTART stands (R194): none; accepted, its reply not yet gone; or its reply gone. -/
inductive RestartStage where
  | none | pending | due
  deriving DecidableEq, Repr

end Sys2Proof.Machine
end

