-- ==== Sys2Proof/Machine/Bytes.lean ====
section
/-! DEFINITION. Machine/Bytes.lean: bytes on the serial lines: little-endian integers (R195), the
CRC-8 of frames (R179) and the CRC-16 of the stored image (R192). -/

namespace Sys2Proof.Machine

/-- An integer of one byte (R195). -/
def u8 (n : Nat) : List Byte := [BitVec.ofNat 8 n]

/-- An integer of two bytes, little-endian (R195). -/
def u16 (n : Nat) : List Byte := [BitVec.ofNat 8 n, BitVec.ofNat 8 (n / 256)]

/-- An integer of four bytes, little-endian (R195). -/
def u32 (n : Nat) : List Byte := u16 n ++ u16 (n / 65536)

/-- A signed position: four bytes in two's complement (R195). -/
def i32 (z : Int) : List Byte := u32 (BitVec.ofInt 32 z).toNat

/-- Yes, on, set and masked are 1, and their opposites are 0 (R195). -/
def flag (b : Bool) : List Byte := u8 (if b then 1 else 0)

/-- A text field of length n: the text, space-padded at its end (R195). -/
def textField (n : Nat) (t : List Byte) : List Byte := (t ++ spaces n).take n

/-- The number that little-endian bytes carry (R195). -/
def readLe : List Byte → Nat
  | [] => 0
  | b :: rest => b.toNat + 256 * readLe rest

/-- A set of named members as bits, in the order of its owning table (R195; spec/13, 13.1). -/
def setBits {α : Type} [DecidableEq α] (all members : List α) : Nat :=
  match all with
  | [] => 0
  | a :: rest => (if a ∈ members then 1 else 0) + 2 * setBits rest members

/-- One shift of the CRC-8 register: polynomial x^8 + x^2 + x + 1, most significant bit first (R179). -/
def crc8Shift (r : Byte) : Byte :=
  if r.msb then (r <<< 1) ^^^ 0x07 else r <<< 1

/-- One byte taken into the CRC-8 register (R179). -/
def crc8Byte (r b : Byte) : Byte :=
  (List.range 8).foldl (fun r _ => crc8Shift r) (r ^^^ b)

/-- The CRC-8 over the bytes given, started from 0xFF, with no final inversion (R179). -/
def crc8 (bytes : List Byte) : Byte := bytes.foldl crc8Byte 0xFF

/-- One shift of the CRC-16 register: polynomial x^16 + x^12 + x^5 + 1 (R192). -/
def crc16Shift (r : BitVec 16) : BitVec 16 :=
  if r.msb then (r <<< 1) ^^^ 0x1021 else r <<< 1

/-- One byte taken into the CRC-16 register, most significant bit first (R192). -/
def crc16Byte (r : BitVec 16) (b : Byte) : BitVec 16 :=
  (List.range 8).foldl (fun r _ => crc16Shift r) (r ^^^ (b.zeroExtend 16 <<< 8))

/-- The CRC-16 over the bytes given, started from 0xFFFF, with no final inversion (R192). -/
def crc16 (bytes : List Byte) : BitVec 16 := bytes.foldl crc16Byte 0xFFFF

/-- The start byte of every frame (R179). -/
def startByte : Byte := 0xC3

/-- A host frame (R179): start byte, length of kind, tag and body, then those, then the check. -/
def hostFrame (kind tag : Byte) (body : List Byte) : List Byte :=
  let covered := u8 (body.length + 2) ++ kind :: tag :: body
  startByte :: covered ++ [crc8 covered]

/-- A field-line frame: as a host frame, without the tag (R46; spec/13, 13.5). -/
def fieldFrame (kind : Byte) (body : List Byte) : List Byte :=
  let covered := u8 (body.length + 1) ++ kind :: body
  startByte :: covered ++ [crc8 covered]

/-- A 16-bit counter rises by 1 and saturates at 65,535. -/
def sat16 (c : Count16) : Count16 := if c = 0xFFFF then c else c + 1

/-- A 16-bit counter rises by n and saturates at 65,535. -/
def sat16By (c : Count16) (n : Nat) : Count16 := BitVec.ofNat 16 (min (c.toNat + n) 65535)

end Sys2Proof.Machine
end

