-- ==== Sys2Proof/Machine/Encode.lean ====
section
/-! DEFINITION. Machine/Encode.lean: the codes of the named values, and the bytes of notices, dispatch
records, replies and field messages (R195; spec/13). Layouts that chapter 13 leaves to R195's
conventions are read as notes/assumptions/28.md to 30.md say. -/

namespace Sys2Proof.Machine

/-! ### Codes of named values (R195: coded from 0 in the order of the owning chapter's table) -/

def LineState.code : LineState → Nat
  | .start => 0 | .ready => 1 | .run => 2 | .hold => 3 | .stopping => 4 | .failsafe => 5

def ResetCause.code : ResetCause → Nat
  | .power => 0 | .pin => 1 | .restart => 2

def failSafeCode : FailSafeMode → Nat
  | .drain => 0 | .continue => 1

def Window.code : Window → Nat
  | .none => 0 | .normal _ _ => 1 | .long _ => 2

def GuardMonitor.code : GuardMonitor → Nat
  | .inactive => 0 | .watching _ => 1 | .lapsed => 2

/-- An alarm as kind and index, 1 byte each, index 0 for kinds without one (R195). -/
def Alarm.bytes : Alarm → List Byte
  | .keepAlive => [0, 0]
  | .guard => [1, 0]
  | .head n => [2, BitVec.ofNat 8 (n.val + 1)]
  | .temp => [3, 0]
  | .saw => [4, 0]
  | .config => [5, 0]

def CheckMark.code : CheckMark → Nat
  | .unchecked => 0 | .matched => 1

def ScanState.code : ScanState → Nat
  | .none => 0 | .announced => 1 | .receiving => 2 | .complete => 3 | .truncated => 4
  | .incomplete => 5 | .missed => 6

def EvalState.code : EvalState → Nat
  | .notQueued => 0 | .queued => 1 | .evaluating => 2 | .done => 3 | .abandoned => 4

def Reason.code : Reason → Nat
  | .late => 1 | .noscan => 2 | .unrated => 3 | .short => 4 | .noValue => 5 | .joined => 6
  | .phantom => 7 | .sawFault => 8 | .cutUnconfirmed => 9 | .suspect => 10

def CutState.code : CutState → Nat
  | .none => 0 | .ordered => 1 | .confirmed => 2 | .unconfirmed => 3 | .faulted => 4

/-- Route kind times 16 plus reason code; a GRADED route carries reason 0 (spec/13, 13.3). -/
def Route.code : Route → Nat
  | .graded _ _ => 16
  | .regrade r => 32 + r.code
  | .reject r => 48 + r.code

def Destination.code : Destination → Nat
  | .gradedBay b => b.val + 1
  | .regradeBin b => b.val + 1
  | .mixedBin b => b.val + 1
  | .endChute => 13

def Reception.code : Reception → Nat
  | .idle => 0 | .receiving => 1 | .discarding => 2

def Verdict.code : Verdict → Nat
  | .none => 0 | .good => 1 | .bad => 2

def HeadFault.code : HeadFault → Nat
  | .cutAbsent => 1 | .overload => 2

def CheckResult.code : CheckResult → Nat
  | .ok => 1 | .notRunning => 2 | .idleDrag => 3

def ConvRequest.code : ConvRequest → Nat
  | .endMatch _ _ => 0 | .moulder _ _ => 1 | .check _ => 2 | .temperature => 3

def OffLineCheck.code : OffLineCheck → Nat
  | .idle => 0 | .running => 1 | .done => 2

def Role.code : Role → Nat
  | .graded _ => 0 | .regrade => 1 | .mixed => 2 | .disabled => 3

def BayState.code : BayState → Nat
  | .opened => 0 | .filled => 1 | .closing => 2 | .blocked => 3

def CloseReason.code : CloseReason → Nat
  | .target => 0 | .count => 1 | .host => 2 | .runEnd => 3

def TemplateFault.code : TemplateFault → Nat
  | .overrun => 1 | .long => 2 | .exhausted => 3 | .badStep => 4

def LabelState.code : LabelState → Nat
  | .requested => 0 | .composing => 1 | .queued => 2 | .sent => 3 | .printed => 4 | .applied => 5
  | .failed _ => 6

def LateCase.code : LateCase → Nat
  | .inFlight => 0 | .queued => 1 | .queueFull => 2

def Refuse.code : Refuse → Nat
  | .unknown => 1 | .length => 2 | .range => 3 | .state => 4 | .busy => 5 | .invalid => 6
  | .notFound => 7

def Policy.code : Policy → Nat
  | .isolate => 0 | .stop => 1

def baudRate : Baud → Nat
  | .b115200 => 115200 | .b460800 => 460800

/-- An absent value is carried as 0 where 0 is outside the field's range (R195). -/
def orZero (n : Option Nat) : Nat := n.getD 0

/-- A strip number that may be absent: 0 when absent (R195). -/
def optStrip (n : Option StripNo) : List Byte := u16 (n.getD 0).toNat

/-! ### Dispatch records -/

/-- The label area: the area rounded to the nearest 0.001 m², an exact half rounded up (R144). -/
def labelArea (area : Nat) : Nat := (area + 500) / 1000

/-- The failure cause of a label state: 0 none, 1 TEMPLATE, 2 PRINTER, 3 TIMEOUT (spec/13, 13.4). -/
def LabelState.causeCode : LabelState → Nat
  | .failed (.template _) => 1
  | .failed (.printer _) => 2
  | .failed .timeout => 3
  | _ => 0

/-- The template fault or printer code of a label state, else 0 (spec/13, 13.4). -/
def LabelState.detailCode : LabelState → Nat
  | .failed (.template f) => f.code
  | .failed (.printer c) => c.toNat
  | _ => 0

/-- A dispatch record, 48 bytes (spec/13, 13.4). -/
def DispatchRecord.bytes (r : DispatchRecord) : List Byte :=
  u32 r.number ++ u8 (r.bay.val + 1) ++ u8 r.grade ++ u16 r.nominal ++ u8 r.width ++ u8 r.count
    ++ u32 r.area ++ u16 r.first.toNat ++ u16 r.last.toNat ++ textField 12 r.lot
    ++ textField 10 r.date ++ u8 r.reason.code ++ u8 r.label.code ++ u8 r.label.causeCode
    ++ u8 r.label.detailCode ++ u8 r.reprints ++ flag r.overflowed ++ u16 (labelArea r.area)

/-- A fault detail, 8 bytes (R93, R195). -/
def FaultDetail.bytes (d : FaultDetail) : List Byte :=
  u16 d.stripAtLatch.toNat ++ optStrip d.lastGoodAtLatch ++ u16 d.suspects.toNat
    ++ u16 d.escaped.toNat

/-- A check result, 1 byte: absent 0, OK 1, NOT RUNNING 2, IDLE DRAG 3 (R93, R195). -/
def checkResultBytes (r : Option CheckResult) : List Byte := u8 (orZero (r.map CheckResult.code))

/-! ### Notices -/

/-- The source of an event (R184). -/
def Notice.source : Notice → Source
  | .state _ => .lineState
  | .effective => .holdEffective
  | .early _ | .late _ => .keepAlive
  | .guardExpired | .guardRestored => .guard
  | .warning _ | .warningCleared _ => .tempWarning
  | .shutdown _ | .shutdownRestored _ => .tempShutdown
  | .headFault n _ _ | .headEscaped n _ => .head n
  | .checkDone _ => .checkDone
  | .closed b _ _ _ _ | .dispatched b _ | .failedTemplate b _ _ | .failedPrinter b _ _
  | .failedTimeout b _ | .released b _ | .lateApply b _ | .fieldOverflow b _ _ => .bay b
  | .chuteFull _ | .chuteEmptied _ | .chuteFallback _ _ => .rejectChute
  | .scannerLine | .missed _ _ | .unmatched _ | .tooLate _ | .sequence _ => .scanner
  | .sawLine | .sawFault _ _ | .unconfirmed _ | .lateReply _ | .sawStray _ => .saw
  | .lost _ | .phantom _ | .phantomUntracked => .track
  | .lateDecision _ _ => .lateDecision
  | .loaded | .defaults | .saved | .saveFailed => .configuration
  | .printerLine | .printerStray _ _ | .printerIdle _ => .printer

/-- The event's place k, from 1, in its source's list in R184 (spec/13, 13.2). -/
def Notice.number : Notice → Nat
  | .state _ | .effective | .early _ | .guardExpired | .warning _ | .shutdown _ | .headFault _ _ _
  | .checkDone _ | .closed _ _ _ _ _ | .chuteFull _ | .scannerLine | .sawLine | .lost _
  | .lateDecision _ _ | .loaded | .printerLine => 1
  | .late _ | .guardRestored | .warningCleared _ | .shutdownRestored _ | .headEscaped _ _
  | .dispatched _ _ | .chuteEmptied _ | .missed _ _ | .sawFault _ _ | .phantom _ | .phantomUntracked
  | .defaults | .printerStray _ _ => 2
  | .failedTemplate _ _ _ | .failedPrinter _ _ _ | .failedTimeout _ _ | .chuteFallback _ _
  | .unmatched _ | .unconfirmed _ | .saved | .printerIdle _ => 3
  | .released _ _ | .tooLate _ | .lateReply _ | .saveFailed => 4
  | .lateApply _ _ | .sequence _ | .sawStray _ => 5
  | .fieldOverflow _ _ _ => 6

/-- The place of a source's kind in R184, counted from 0 (spec/13, 13.2). -/
def Source.place : Source → Nat
  | .lineState => 0 | .holdEffective => 1 | .keepAlive => 2 | .guard => 3 | .tempWarning => 4
  | .tempShutdown => 5 | .head _ => 6 | .checkDone => 7 | .bay _ => 8 | .rejectChute => 9
  | .scanner => 10 | .saw => 11 | .track => 12 | .lateDecision => 13 | .configuration => 14
  | .printer => 15

/-- The index of a source: head 1 to 6, bay 1 to 12, else 0 (spec/13, 13.2). -/
def Source.index : Source → Nat
  | .head n => n.val + 1
  | .bay b => b.val + 1
  | _ => 0

/-- The bit of the mask set that masks an event: bits 0 to 14 the source kinds other than bay, bits 16
to 21 the bay events (R186; spec/13, 13.1). -/
def Notice.maskBit (n : Notice) : Nat :=
  match n.source with
  | .bay _ => 15 + n.number
  | src => if src.place < 8 then src.place else src.place - 1

/-- The bytes of the latest detail (spec/13, 13.2; notes/assumptions/29.md). -/
def Notice.detail : Notice → List Byte
  | .state st | .early st | .late st => u8 st.code
  | .effective | .guardExpired | .guardRestored => []
  | .warning r | .warningCleared r | .shutdown r | .shutdownRestored r => u8 r ++ u8 0
  | .headFault _ f d => u8 f.code ++ d.bytes
  | .headEscaped _ n => u16 n.toNat
  | .checkDone rs => rs.toList.flatMap checkResultBytes
  | .closed _ n r c a => u32 n ++ u8 r.code ++ u8 c ++ u32 a
  | .dispatched _ r | .released _ r => r.bytes
  | .failedTemplate _ n f => u32 n ++ u8 1 ++ u8 f.fault.code ++ u8 (f.slot.val + 1) ++ u8 f.cursor
  | .failedPrinter _ n c => u32 n ++ u8 2 ++ [c]
  | .failedTimeout _ n => u32 n ++ u8 3
  | .lateApply _ n => u32 n
  | .fieldOverflow _ n f => u32 n ++ u8 f
  | .chuteFull o | .chuteEmptied o => u16 o.toNat
  | .chuteFallback n r => u16 n.toNat ++ u8 r.code
  | .scannerLine | .sawLine | .printerLine => []
  | .missed c n => u8 c ++ u16 n.toNat
  | .unmatched n | .tooLate n | .unconfirmed n | .lateReply n | .sawStray n | .lost n => u16 n.toNat
  | .sequence n => optStrip n
  | .sawFault n c => u16 n.toNat ++ [c]
  | .phantom p => i32 p ++ u8 0
  | .phantomUntracked => i32 0 ++ u8 1
  | .lateDecision n c => u16 n.toNat ++ u8 c.code
  | .loaded | .defaults | .saved | .saveFailed => []
  | .printerStray k n => [k] ++ u32 n.toNat
  | .printerIdle q => match q with
    | some n => u8 n
    | none => []

/-- The event-set bit of event k: bit k - 1 (spec/13, 13.2). -/
def Notice.eventBit (n : Notice) : BitVec 8 := 1 <<< (n.number - 1)

/-- The notice frame of an entry: kind 0x80 plus the source kind's place, tag 0 (spec/13, 13.2). -/
def NoticeEntry.frame (e : NoticeEntry) : List Byte :=
  hostFrame (BitVec.ofNat 8 (0x80 + e.source.place)) 0
    (u8 e.source.index ++ [e.events] ++ u8 e.latest.number ++ u8 e.repeats ++ e.latest.detail)

/-! ### Replies and field messages -/

/-- A reply frame: ACCEPTED with the owner's body, or REFUSED with the code and the detail (R182;
spec/13, 13.1). -/
def Reply.frame (r : Reply) : List Byte :=
  match r.answer with
  | .accepted body => hostFrame 0x7E r.tag (r.kind :: body)
  | .refused code detail => hostFrame 0x7F r.tag (r.kind :: u8 code.code ++ u8 detail)

/-- ANNOUNCE to the scanner (spec/13, 13.5). -/
def announceFrame (n : StripNo) : List Byte := fieldFrame 0x01 (u16 n.toNat)

/-- ORDER to the saw, form CUT or PASS (spec/13, 13.5). -/
def orderFrame (o : Order) : List Byte :=
  match o.form with
  | .cut head raw => fieldFrame 0x11 (u16 o.strip.toNat ++ u16 head ++ u16 raw)
  | .pass => fieldFrame 0x12 (u16 o.strip.toNat)

/-- LABEL to the printer (spec/13, 13.5). -/
def labelFrame (l : Label) : List Byte := fieldFrame 0x22 (u32 l.number ++ l.text)

end Sys2Proof.Machine
end

