-- ==== Sys2Proof/Machine/State.lean ====
section
/-! DEFINITION. Machine/State.lean: everything the spec gives the part, block by block (spec/00, 0.3),
as plain data, with the reasons a step can stop and the state right after reset. Moments and expiries
are counted on the part's clock in quarter-milliseconds, the longest unit in which every duration the
spec states is whole (notes/assumptions/2.md). -/

namespace Sys2Proof.Machine

/-- A duration of n milliseconds on the part's clock. -/
def ms (n : Nat) : Nat := 4 * n

/-- The Track Unit (spec/01). `encA`, `encB` are the levels of ENC-A and ENC-B; `countsInForce` is the
counts-per-mm value in effect (R1); `intervalStart` is the travel counter at the start of the speed
interval and `intervalEnd` the moment it ends (R2); `nextSerial` is the model's own. -/
structure TrackUnit where
  encA : Bool
  encB : Bool
  travel : Travel
  remainder : Int
  countsInForce : Nat
  speed : Nat
  intervalStart : Travel
  intervalEnd : Nat
  eyeIn : EyeFilter
  eyeCk : EyeFilter
  ckEdge : CkEdge
  strips : List Strip
  inAdmission : Option Nat
  nextNumber : StripNo
  nextSerial : Nat
  stats : Statistics
  deriving DecidableEq, Repr

/-- The Line Supervisor (spec/02). `holds` and `alarms` are sets, kept in the order of their tables.
`guardHigh` is the level of GUARD and `guardHighSince` the moment a high period that can still be
accepted as an edge began (R39); `lampA` is LAMP-A's blink and `lampG` LAMP-G's dimming cycle. -/
structure Supervisor where
  line : LineState
  holds : List HoldSource
  holdEffective : Bool
  stopPending : Bool
  failSafe : FailSafeMode
  resetCause : ResetCause
  alarms : List Alarm
  window : Window
  guard : GuardMonitor
  guardHigh : Bool
  guardHighSince : Option Nat
  lampA : Option LampPhase
  lampG : Option LampPhase
  deriving DecidableEq, Repr

/-- The Scanner Port (spec/03): announce list, reception with its items (R49), the eight counters
(R56), the receiver of the line and the messages the part has put on it, oldest first. -/
structure ScannerPort where
  announces : List StripNo
  reception : Reception
  receiving : Option StripNo
  received : Nat
  damaged : Bool
  lineErrors : Count16
  missed : Count16
  unmatched : Count16
  tooLate : Count16
  sequence : Count16
  truncated : Count16
  incomplete : Count16
  rejected : Count16
  rx : Receiver
  tx : List (List Byte)
  deriving DecidableEq, Repr

/-- The Grading Engine (spec/04): IDLE when `inFlight` is none. `nextEvaluation` is the model's own: the
serial of the next evaluation. -/
structure GradingEngine where
  queue : List StripNo
  inFlight : Option EvalInputs
  nextEvaluation : Nat
  last : Option LastEvaluation
  completed : Count16
  abandoned : Count16
  withdrawn : Count16
  refused : Count16
  deriving DecidableEq, Repr

/-- The Saw Port (spec/05). -/
structure SawPort where
  orders : List Order
  lastFault : Option (StripNo × Byte)
  lineErrors : Count16
  sent : Count16
  confirmed : Count16
  faults : Count16
  lateReplies : Count16
  strayReplies : Count16
  withdrawn : Count16
  rx : Receiver
  tx : List (List Byte)
  deriving DecidableEq, Repr

/-- The Head Monitor (spec/06): IDLE when `conversion` is none; `rotation` is the rotation pointer, H1
to H4; `tempSince` is the moment staleness is reckoned from and `nextTemp` the next moment of the
temperature timer (R96). `nextConversion` is the model's own: the serial of the next conversion. -/
structure HeadMonitor where
  records : Vector HeadRecord 6
  requests : List ConvRequest
  conversion : Option Conversion
  nextConversion : Nat
  rotation : Fin 4
  reading : Option Nat
  preWarning : Bool
  shutdown : Bool
  stale : Bool
  tempSince : Nat
  nextTemp : Nat
  check : OffLineCheck
  cursor : Option Head
  completed : Count16
  late : Count16
  withdrawn : Count16
  skipped : Count16
  takeovers : Count16
  deriving DecidableEq, Repr

/-- The Sort Unit (spec/07): the bay table (roles, keys and capacities stand in the working
configuration), the reject chute and the three counters. -/
structure SortUnit where
  bays : Vector BayEntry 12
  chuteOccupancy : Count16
  chuteInTransit : Nat
  mixedFallbacks : Count16
  gradedToChute : Count16
  regradeToChute : Count16
  deriving DecidableEq, Repr

/-- The Bundle Unit (spec/08). -/
structure BundleUnit where
  bundles : Vector (Option OpenBundle) 12
  dispatch : List DispatchRecord
  nextNumber : Nat
  lot : List Byte
  date : List Byte
  deriving DecidableEq, Repr

/-- The Label Composer (spec/09): IDLE when `composing` is none; a composition request names its
record by its bay (R152). -/
structure LabelComposer where
  requests : List Bay
  composing : Option Composition
  queue : List Label
  lastFault : Option LastFault
  completed : Count16
  faults : Count16
  overflows : Count16
  deriving DecidableEq, Repr

/-- The Printer Port (spec/10): the label in flight, when there is one, is the head of the label queue
(R167). -/
structure PrinterPort where
  online : Bool
  ready : Bool
  inFlight : Bool
  applyExpiry : Option Nat
  idlePending : Bool
  lastFailed : Option (Nat × Bay)
  lineErrors : Count16
  sent : Count16
  applied : Count16
  faults : Count16
  timeouts : Count16
  lateApplies : Count16
  stray : Count16
  rx : Receiver
  tx : List (List Byte)
  deriving DecidableEq, Repr

/-- The Host Link (spec/11). A request is in hand while its reply is in the reply list (R181). -/
structure HostLink where
  rx : Receiver
  baud : Baud
  replies : List Reply
  tx : Transmitter
  notices : List NoticeEntry
  masks : BitVec 24
  errors : Count16
  noise : Count16
  busyRefusals : Count16
  overruns : Count16
  queued : Count16
  coalesced : Count16
  sent : Count16
  deriving DecidableEq, Repr

/-- The Configuration Store (spec/12): the working configuration; the stored image (none: its CRC-16
does not match); the copy being written while SAVING (R192); and where a RESTART stands (R194). -/
structure ConfigStore where
  working : WorkingConfig
  image : Option WorkingConfig
  saving : Option WorkingConfig
  edited : Bool
  lastCheck : Nat
  saves : Count16
  failures : Count16
  restart : RestartStage
  deriving DecidableEq, Repr

/-- The whole part. `now` is the part's clock and `powered` whether the supply is up. `races` is the
model's own: how many transmit races (R183) have been decided, the argument of the free value that
decides the next. `pending` is the queue of commands waiting, first in, first out. -/
structure State where
  now : Nat
  powered : Bool
  track : TrackUnit
  sup : Supervisor
  scanner : ScannerPort
  grading : GradingEngine
  saw : SawPort
  heads : HeadMonitor
  sort : SortUnit
  bundles : BundleUnit
  labels : LabelComposer
  printer : PrinterPort
  link : HostLink
  store : ConfigStore
  races : Nat
  pending : List Instr
  deriving DecidableEq, Repr

/-- Reasons to stop with a fault: none. The spec names no condition that stops the part, and every
command has an effect, so nothing raises a fault (safe). -/
inductive Fault where
  deriving DecidableEq, Repr

/-- Reasons to refuse a command. -/
inductive Refusal where
  /-- Raised by an arm of exec whose command has no meaning yet (safe). No arm raises it. -/
  | notModelled (mnemonic : String)
  deriving DecidableEq, Repr

/-- An eye right after reset: accepted level clear, no change pending (R22); the input clear. -/
def EyeFilter.reset : EyeFilter :=
  { input := false, fromReset := true, accepted := false, pending := none }

/-- The Track Unit right after power-up (R22). -/
def TrackUnit.reset : TrackUnit :=
  { encA := false, encB := false, travel := 0, remainder := 0, countsInForce := 1, speed := 0
    intervalStart := 0, intervalEnd := ms 100, eyeIn := .reset, eyeCk := .reset, ckEdge := .none
    strips := [], inAdmission := none, nextNumber := 1, nextSerial := 0, stats := {} }

/-- The Line Supervisor right after power-up with a mismatching stored image (R45, R193). -/
def Supervisor.reset : Supervisor :=
  { line := .start, holds := [], holdEffective := false, stopPending := false, failSafe := .drain
    resetCause := .power, alarms := [.config], window := .none, guard := .inactive
    guardHigh := false, guardHighSince := none, lampA := none, lampG := none }

/-- The Scanner Port right after either reset (R58). -/
def ScannerPort.reset : ScannerPort :=
  { announces := [], reception := .idle, receiving := none, received := 0, damaged := false
    lineErrors := 0, missed := 0, unmatched := 0, tooLate := 0, sequence := 0, truncated := 0
    incomplete := 0, rejected := 0, rx := {}, tx := [] }

/-- The Grading Engine right after power-up (R81). -/
def GradingEngine.reset : GradingEngine :=
  { queue := [], inFlight := none, nextEvaluation := 0, last := none, completed := 0, abandoned := 0, withdrawn := 0
    refused := 0 }

/-- The Saw Port right after either reset (R92). -/
def SawPort.reset : SawPort :=
  { orders := [], lastFault := none, lineErrors := 0, sent := 0, confirmed := 0, faults := 0
    lateReplies := 0, strayReplies := 0, withdrawn := 0, rx := {}, tx := [] }

/-- The Head Monitor right after power-up: the TEMPERATURE request placed as reset ends has been taken
by the idle converter (R95, R96, R114). The check cursor names no head while no check runs: DESIGN
CHOICE (notes/assumptions/45.md). -/
def HeadMonitor.reset : HeadMonitor :=
  { records := Vector.replicate 6 {}, requests := []
    conversion := some { serial := 0, request := .temperature, settings := factoryDefaults.heads }
    nextConversion := 1, rotation := 0, reading := none, preWarning := false, shutdown := false
    stale := false, tempSince := 0, nextTemp := ms 500, check := .idle, cursor := none
    completed := 0, late := 0, withdrawn := 0, skipped := 0, takeovers := 0 }

/-- The Sort Unit right after power-up with the factory defaults, where every bay is DISABLED (R131). -/
def SortUnit.reset : SortUnit :=
  { bays := Vector.replicate 12 { state := none, occupancy := 0, inTransit := 0, overGate := 0 }
    chuteOccupancy := 0, chuteInTransit := 0, mixedFallbacks := 0, gradedToChute := 0
    regradeToChute := 0 }

/-- The Bundle Unit right after power-up with the factory defaults (R146). -/
def BundleUnit.reset : BundleUnit :=
  { bundles := Vector.replicate 12 none, dispatch := [], nextNumber := 1, lot := spaces 12
    date := spaces 10 }

/-- The Label Composer right after either reset (R165). -/
def LabelComposer.reset : LabelComposer :=
  { requests := [], composing := none, queue := [], lastFault := none, completed := 0, faults := 0
    overflows := 0 }

/-- The Printer Port right after either reset (R167, R178). -/
def PrinterPort.reset : PrinterPort :=
  { online := true, ready := false, inFlight := false, applyExpiry := none, idlePending := false
    lastFailed := none, lineErrors := 0, sent := 0, applied := 0, faults := 0, timeouts := 0
    lateApplies := 0, stray := 0, rx := {}, tx := [] }

/-- The Host Link right after power-up with a mismatching image: the DEFAULTS notice has been taken
for sending and the STATE notice waits (R183, R188, R193). -/
def HostLink.reset : HostLink :=
  { rx := {}, baud := .b115200, replies := []
    tx := .notice
      (NoticeEntry.frame { source := .configuration, events := 2, latest := .defaults, repeats := 1 })
    notices := [{ source := .lineState, events := 1, latest := .state .start, repeats := 1 }]
    masks := 0, errors := 0, noise := 0, busyRefusals := 0, overruns := 0, queued := 2
    coalesced := 0, sent := 1 }

/-- The Configuration Store right after power-up with a mismatching image (R192, R193): the first
failing check is 1. -/
def ConfigStore.reset : ConfigStore :=
  { working := factoryDefaults, image := none, saving := none, edited := false, lastCheck := 1
    saves := 0, failures := 0, restart := .none }

/-- The part right after power-up, at the end of the start-up steps of R193. The spec gives the stored
image no contents before the first SAVE and the straps and input pins no level: DESIGN CHOICE, the
image mismatches, BAUD selects 115,200, FSEL selects FS-DRAIN, and every input pin is low or clear
(notes/assumptions/5.md and 6.md). -/
def State.reset : State :=
  { now := 0, powered := true, track := .reset, sup := .reset, scanner := .reset, grading := .reset
    saw := .reset, heads := .reset, sort := .reset, bundles := .reset, labels := .reset
    printer := .reset, link := .reset, store := .reset, races := 0, pending := [] }

end Sys2Proof.Machine
end

