-- ==== Sys2Proof/Machine/Flags.lean ====
section
/-! DEFINITION. Machine/Flags.lean: what the blocks read off the state: the output pins, the attention
conditions, the keep-alive window's parts, the settings in force and the lookups of records. An output
pin that the spec defines by other state is computed from it here and stored nowhere. -/

namespace Sys2Proof.Machine

/-- The working configuration. -/
def State.cfg (s : State) : WorkingConfig := s.store.working

/-! ### Output pins -/

/-- GATE-IN is open only while the line state is RUN, or FAILSAFE in FS-CONTINUE with stop pending
clear, the hold-source set is empty and no restart is pending (R28, R37). -/
def State.gateInOpen (s : State) : Bool :=
  s.powered && s.sup.holds.isEmpty && (s.store.restart == .none) &&
    match s.sup.line with
    | .run => true
    | .failsafe => s.sup.failSafe == .continue && !s.sup.stopPending
    | _ => false

/-- GATE-n is open while the bay's over-gate count is above 0 (R122). -/
def State.gateOpen (s : State) (b : Bay) : Bool := s.powered && 0 < s.sort.bays[b].overGate

/-- LAMP-R is lit exactly while the alarm list is non-empty (R42). -/
def State.lampR (s : State) : Bool := s.powered && !s.sup.alarms.isEmpty

/-- A lamp's cycle stands in a lit phase. -/
def phaseLit : Option LampPhase → Bool
  | some p => p.lit
  | none => false

/-- LAMP-G is steady on in RUN, follows the dimming cycle in HOLD and STOPPING, and is off in START,
READY and FAILSAFE (R42). -/
def State.lampG (s : State) : Bool :=
  s.powered && match s.sup.line with
    | .run => true
    | .hold | .stopping => phaseLit s.sup.lampG
    | _ => false

/-- LAMP-A follows its blink while an attention condition holds (R43). -/
def State.lampA (s : State) : Bool := s.powered && phaseLit s.sup.lampA

/-! ### Bays and bins -/

/-- The role of a bay (R115). -/
def State.role (s : State) (b : Bay) : Role := s.cfg.bays[b]

/-- Whether a role is REGRADE or MIXED (R115). -/
def Role.isBin : Role → Bool
  | .regrade | .mixed => true
  | _ => false

/-- Whether a role is GRADED (R115). -/
def Role.isGraded : Role → Bool
  | .graded _ => true
  | _ => false

/-- The capacity of a bay (R125). -/
def State.capacity (s : State) (b : Bay) : Nat := s.cfg.bundling.capacity[b]

/-- A bin has room when its occupancy plus its in-transit count is below its capacity (R120). -/
def State.hasRoom (s : State) (b : Bay) : Bool :=
  s.sort.bays[b].occupancy.toNat + s.sort.bays[b].inTransit < s.capacity b

/-- A bin stands at or above its capacity (R124). -/
def State.binFull (s : State) (b : Bay) : Bool :=
  (s.role b).isBin && s.capacity b ≤ s.sort.bays[b].occupancy.toNat

/-- The reject chute stands at or above its capacity (R124). -/
def State.chuteFull (s : State) : Bool :=
  s.cfg.bundling.chuteCapacity ≤ s.sort.chuteOccupancy.toNat

/-- Every bay, nearest first. -/
def allBays : List Bay := List.finRange 12

/-- Every head, H1 first. -/
def allHeads : List Head := List.finRange 6

/-- The attention conditions of LAMP-A (R43). -/
def State.attention (s : State) : Bool :=
  allBays.any (fun b => s.sort.bays[b].state == some .blocked || s.binFull b) || s.chuteFull ||
    s.heads.preWarning || !s.printer.online

/-! ### Supervision -/

/-- The keep-alive period in milliseconds; none for OFF (R33). -/
def Period.millis : Period → Option Nat
  | .ms100 => some 100 | .ms200 => some 200 | .ms500 => some 500 | .ms1000 => some 1000
  | .ms2000 => some 2000 | .off => none

/-- The keep-alive monitor is active in RUN, HOLD and STOPPING (R33). -/
def LineState.keepAliveActive : LineState → Bool
  | .run | .hold | .stopping => true
  | _ => false

/-- The guard monitor, when enabled, is active in RUN, HOLD, STOPPING and FAILSAFE (R39). -/
def LineState.guardActive : LineState → Bool
  | .run | .hold | .stopping | .failsafe => true
  | _ => false

/-- The moment a keep-alive window ends (R33, R35). -/
def Window.expiry : Window → Option Nat
  | .none => Option.none
  | .normal start p => some (start + ms p)
  | .long start => some (start + ms 5000)

/-- The part of a NORMAL window that is closed: its first 40 % (R33). -/
def closedPart (p : Nat) : Nat := ms p * 2 / 5

/-- START and READY, the states in which the locked sections are writable and the check is made
(R189, R191). -/
def LineState.idle : LineState → Bool
  | .start | .ready => true
  | _ => false

/-! ### Strip records -/

/-- The difference of two travel counter values, read as a signed 32-bit number (R1). -/
def travelDiff (a b : Travel) : Int := (a - b).toInt

/-- A record's reference: admission travel plus adjustment, modulo 2^32 (R9). -/
def Strip.reference (r : Strip) : Travel := r.admission + r.adjustment

/-- A record's leading-edge position at a travel counter value (R9). -/
def Strip.leading (r : Strip) (t : Travel) : Int := travelDiff t r.reference

/-- A record's length: its current length when present, and otherwise its infeed length (R9). -/
def Strip.length (r : Strip) : Option Nat := r.current <|> r.infeed

/-- A record's trailing-edge position, unknown while it has neither length (R9). -/
def Strip.trailing (r : Strip) (t : Travel) : Option Int := r.length.map (fun l => r.leading t - l)

/-- Whether a record's trailing edge is known and stands beyond a point (R9). -/
def Strip.clearOf (r : Strip) (point : Nat) (t : Travel) : Bool :=
  match r.trailing t with
  | some x => decide ((point : Int) < x)
  | none => false

/-- Whether a record is a phantom (R15). -/
def Strip.isPhantom (r : Strip) : Bool := r.origin == .phantom

/-- The record in the track that carries a nonzero strip number (R85, R87). -/
def State.stripNo (s : State) (n : StripNo) : Option Strip :=
  s.track.strips.find? (fun r => r.number == n && n != 0)

/-- The record in the track with the model's serial. -/
def State.stripSerial (s : State) (id : Nat) : Option Strip :=
  s.track.strips.find? (fun r => r.serial == id)

/-- The candidate: the farthest record whose check state is UNCHECKED (R13). -/
def State.candidate (s : State) : Option Strip :=
  s.track.strips.find? (fun r => r.check == .unchecked)

/-- An EYE-CK leading edge is in judgement from the moment its change becomes pending until it is
judged or set aside (R13). -/
def State.inJudgement (s : State) : Bool :=
  (s.track.eyeCk.pending.isSome && !s.track.eyeCk.accepted) || match s.track.ckEdge with
    | .awaiting _ => true
    | _ => false

/-! ### The host link -/

/-- A request is in hand from the moment it is taken until the last byte of its reply has gone (R181). -/
def State.requestInHand (s : State) : Bool := s.link.replies.any (·.inHand)

/-- The BUSY refusals waiting in the reply list (R181). -/
def State.busyWaiting (s : State) : Nat := (s.link.replies.filter (fun r => !r.inHand)).length

end Sys2Proof.Machine
end

