-- ==== Sys2Proof/Machine/Ops.lean ====
section
/-! DEFINITION. Machine/Ops.lean: the operations every block shares: giving a notice, latching an
alarm, changing the hold-source set and the line state, the transmit arbiter, and what ends every
command (LAMP-A and the arbiter). -/

namespace Sys2Proof.Machine

/-! ### Notices (R185) -/

/-- An event taken into its source's waiting entry (R185). -/
def NoticeEntry.take (e : NoticeEntry) (n : Notice) : NoticeEntry :=
  { e with events := e.events ||| n.eventBit, latest := n, repeats := min (e.repeats + 1) 255 }

/-- A fresh entry for an event (R185). -/
def NoticeEntry.fresh (n : Notice) : NoticeEntry :=
  { source := n.source, events := n.eventBit, latest := n, repeats := 1 }

/-- The link after an event given to its notice source: a masked event changes nothing, an unmasked one
makes its source's entry at the tail or is coalesced into the one waiting (R185). -/
def giveLink (n : Notice) (k : HostLink) : HostLink :=
  if k.masks.getLsbD n.maskBit then k
  else if k.notices.any (fun e => e.source == n.source) then
    { k with
      notices := k.notices.map (fun e => if e.source == n.source then e.take n else e)
      coalesced := sat16 k.coalesced }
  else { k with notices := k.notices ++ [NoticeEntry.fresh n], queued := sat16 k.queued }

/-- An event given to its notice source (R185). -/
def give (n : Notice) (s : State) : State := { s with link := giveLink n s.link }

/-! ### Alarms and hold sources as sets (R25, R40) -/

/-- An alarm is latched; one already in the list leaves it as it was (R40). -/
def latchAlarm (a : Alarm) (s : State) : State :=
  { s with sup.alarms := Alarm.all.filter (fun b => b == a || s.sup.alarms.contains b) }

/-- A hold source put into the set (R25). -/
def insertHold (h : HoldSource) (s : State) : State :=
  { s with sup.holds := HoldSource.all.filter (fun g => g == h || s.sup.holds.contains g) }

/-- A hold source taken out of the set (R25). -/
def eraseHold (h : HoldSource) (s : State) : State :=
  { s with sup.holds := s.sup.holds.filter (fun g => g != h) }

/-! ### The line state (R23 to R28) -/

/-- Hold effective holds while the line state is HOLD and the track is empty; each gaining of it gives
one EFFECTIVE event (R27). -/
def refreshEffective (s : State) : State :=
  let now := s.sup.line == .hold && s.track.strips.isEmpty
  if now && !s.sup.holdEffective then give .effective { s with sup.holdEffective := true }
  else { s with sup.holdEffective := now }

/-- The keep-alive window kind is NONE in READY, START and FAILSAFE (R33). -/
def closeWindow (st : LineState) (s : State) : State :=
  if st.keepAliveActive then s else { s with sup.window := .none }

/-- The guard monitor becomes inactive in READY and START, and GUARD then leaves the set; its window
starts afresh whenever the line enters RUN (R39). -/
def moveGuard (st : LineState) (s : State) : State :=
  if st.guardActive then
    if st == .run && s.sup.guard != .inactive then { s with sup.guard := .watching (s.now + ms 250) }
    else s
  else eraseHold .guard { s with sup.guard := .inactive }

/-- LAMP-G is dimmed in HOLD and STOPPING: 1.25 ms on in each 5 ms (R42). DESIGN CHOICE: the cycle begins
with its on phase when the lamp becomes dimmed, and a cycle that runs goes on in phase when HOLD goes to
STOPPING (notes/assumptions/35.md). -/
def moveLampG (st : LineState) (s : State) : State :=
  if st == .hold || st == .stopping then
    if s.sup.lampG.isSome then s else { s with sup.lampG := some { lit := true, ends := s.now + 5 } }
  else { s with sup.lampG := none }

/-- The line state becomes `st`, with what follows of the monitors and LAMP-G, and no event yet. -/
def placeLine (st : LineState) (s : State) : State :=
  moveLampG st (moveGuard st (closeWindow st { s with sup.line := st }))

/-- The STATE event of the state reached (R23), and hold effective after it (R27). -/
def reportLine (s : State) : State := refreshEffective (give (.state s.sup.line) s)

/-- The line state changes to `st` at one cause, with one STATE event (R23, R24). -/
def changeLine (st : LineState) (s : State) : State :=
  if s.sup.line == st then s else reportLine (placeLine st s)

/-- A source is added to the hold-source set; in RUN the line goes to HOLD (R25, R26). -/
def addHold (h : HoldSource) (s : State) : State :=
  if s.sup.holds.contains h then s
  else
    let s := insertHold h s
    if s.sup.line == .run then changeLine .hold s else s

/-- A source is removed from the hold-source set; in HOLD the removal of the last moves the line to
RUN (R25, R26). -/
def removeHold (h : HoldSource) (s : State) : State :=
  if s.sup.holds.contains h then
    let s := eraseHold h s
    if s.sup.line == .hold && s.sup.holds.isEmpty then changeLine .run s else s
  else s

/-! ### The transmit arbiter (R183) -/

/-- The oldest reply begins to be sent; it stays in the reply list until its last byte has gone (R181). -/
def sendReply (s : State) : State :=
  match s.link.replies with
  | r :: _ => { s with link.tx := .reply r.frame }
  | [] => s

/-- The oldest notice entry is taken for sending; its content is fixed now (R185). -/
def sendNotice (s : State) : State :=
  match s.link.notices with
  | e :: rest =>
    { s with link.tx := .notice e.frame, link.notices := rest, link.sent := sat16 s.link.sent }
  | [] => s

/-- The arbiter's choice when the line becomes free: the oldest reply, or else the oldest notice
(R183). Nothing more is sent once the RESTART reply has gone (R183, R194). -/
def sendNext (s : State) : State :=
  if s.store.restart == .due then s
  else if s.link.replies.isEmpty then sendNotice s else sendReply s

/-- The arbiter while the line is free, at the end of a command that may have made frames ready. When
a reply and a notice became ready together, which is taken first is a free value (R183;
notes/assumptions/22.md). -/
def arbitrate (s : State) : State :=
  if s.link.tx == .free && s.store.restart != .due then
    if !s.link.replies.isEmpty && !s.link.notices.isEmpty then
      let first := Config.arbiterTakesReply s.races
      let s := { s with races := s.races + 1 }
      if first then sendReply s else sendNotice s
    else sendNext s
  else s

/-! ### The end of every command -/

/-- LAMP-A blinks at 2 Hz from its on phase while any attention condition holds, and is off while none
does (R43). -/
def refreshLampA (s : State) : State :=
  if s.attention then
    if s.sup.lampA.isSome then s
    else { s with sup.lampA := some { lit := true, ends := s.now + ms 250 } }
  else { s with sup.lampA := none }

/-- What every command ends with: LAMP-A follows the attention conditions, and the arbiter looks at the
transmit line. -/
def settle (s : State) : State := arbitrate (refreshLampA s)

/-- The outcome of a command with effect `f`: without supply nothing happens (R192;
notes/assumptions/33.md). -/
def live (s : State) (f : State → State) : Host.Outcome State Fault Refusal :=
  if s.powered then .next (settle (f s)) else .next s

/-! ### Strip records and dispatch records -/

/-- A change of the record with the model's serial. -/
def modifySerial (id : Nat) (f : Strip → Strip) (s : State) : State :=
  { s with track.strips := s.track.strips.map (fun r => if r.serial == id then f r else r) }

/-- A change of the record that carries a nonzero strip number. -/
def modifyNumber (n : StripNo) (f : Strip → Strip) (s : State) : State :=
  { s with
    track.strips := s.track.strips.map (fun r => if r.number == n && n != 0 then f r else r) }

/-- The dispatch record of a bay (R141). -/
def State.record (s : State) (b : Bay) : Option DispatchRecord :=
  s.bundles.dispatch.find? (fun r => r.bay == b)

/-- A change of the dispatch record of a bay. -/
def modifyRecord (b : Bay) (f : DispatchRecord → DispatchRecord) (s : State) : State :=
  { s with bundles.dispatch := s.bundles.dispatch.map (fun r => if r.bay == b then f r else r) }

/-- The label state of a bay's dispatch record is set (R142). -/
def setLabel (b : Bay) (l : LabelState) (s : State) : State :=
  modifyRecord b (fun r => { r with label := l }) s

/-- A change of one bay's entry in the bay table. -/
def modifyBay (b : Bay) (f : BayEntry → BayEntry) (s : State) : State :=
  { s with sort.bays := s.sort.bays.set b (f s.sort.bays[b]) }

/-- The state of a graded bay changes (R116). -/
def setBay (b : Bay) (st : BayState) (s : State) : State :=
  modifyBay b (fun e => { e with state := some st }) s

/-- A change of one head's record. -/
def modifyHead (n : Head) (f : HeadRecord → HeadRecord) (s : State) : State :=
  { s with heads.records := s.heads.records.set n (f s.heads.records[n]) }

/-- A message of the Scanner Port joins its transmit side in order (R46). -/
def sendScanner (frame : List Byte) (s : State) : State :=
  { s with scanner.tx := s.scanner.tx ++ [frame] }

/-- A message of the Saw Port joins its transmit side in order (R82). -/
def sendSaw (frame : List Byte) (s : State) : State := { s with saw.tx := s.saw.tx ++ [frame] }

/-- A message of the Printer Port joins its transmit side in order (R166). -/
def sendPrinter (frame : List Byte) (s : State) : State :=
  { s with printer.tx := s.printer.tx ++ [frame] }

end Sys2Proof.Machine
end

