-- ==== Sys2Proof/Machine/Labels.lean ====
section
/-! DEFINITION. Machine/Labels.lean: the Label Composer (spec/09) and the sending of labels from the
head of the label queue (R168). -/

namespace Sys2Proof.Machine

/-! ### Beginning a composition (R153) -/

/-- The grade name of a grade number, whether or not it still lies at or below G (R153). -/
def gradeName (cfg : WorkingConfig) (g : Nat) : List Byte :=
  match cfg.grades.grades.toList[g - 1]? with
  | some gr => gr.name
  | none => spaces 12

/-- The composition of a record begins with the inputs as they stand (R153) and the working state of
R154. -/
def beginComposition (r : DispatchRecord) (s : State) : State :=
  { setLabel r.bay .composing s with
    labels.composing := some
      { record := { r with label := .composing }
        slot := s.cfg.label.slot
        template := s.cfg.templates[s.cfg.label.slot]
        gradeName := gradeName s.cfg r.grade
        lineName := s.cfg.line.lineName } }

/-- The idle composer begins the request at the head of the composition list when the label queue holds
fewer than 4 labels (R153). -/
def composerBegin (s : State) : State :=
  match s.labels.composing, s.labels.requests with
  | none, b :: rest =>
    if s.labels.queue.length < 4 then
      let s := { s with labels.requests := rest }
      match s.record b with
      | some r => beginComposition r s
      | none => s
    else s
  | _, _ => s

/-- A composition request for a bay's record joins the tail of the composition list with label state
REQUESTED (R152), and the composer begins if it can. -/
def requestComposition (b : Bay) (s : State) : State :=
  let s := setLabel b .requested s
  composerBegin { s with labels.requests := s.labels.requests ++ [b] }

/-! ### Sending a label (R168) -/

/-- The sending test: the head label is sent when the printer is ONLINE, its ready flag is seen and no
label is in flight (R168). -/
def sendingTest (s : State) : State :=
  match s.labels.queue with
  | l :: _ =>
    if s.printer.online && s.printer.ready && !s.printer.inFlight then
      let s := setLabel l.bay .sent (sendPrinter (labelFrame l) s)
      { s with
        printer.inFlight := true
        printer.ready := false
        printer.applyExpiry := some (s.now + ms (1000 * s.cfg.label.applyTimeout))
        printer.sent := sat16 s.printer.sent }
    else s
  | [] => s

/-! ### Reading the next step (R155) -/

/-- The twelve steps of a template (R155), in the order of their codes (spec/13, 13.6). -/
inductive StepKind where
  | text | load | digits | force | mark | put | fill | setchar | copy | blankzero | line | endStep
  deriving DecidableEq, Repr

/-- The step a code names (spec/13, 13.6). -/
def stepOf (code : Byte) : Option StepKind :=
  match code.toNat with
  | 1 => some .text
  | 2 => some .load
  | 3 => some .digits
  | 4 => some .force
  | 5 => some .mark
  | 6 => some .put
  | 7 => some .fill
  | 8 => some .setchar
  | 9 => some .copy
  | 10 => some .blankzero
  | 11 => some .line
  | 12 => some .endStep
  | _ => none

/-- The bytes that follow a step's code, when they are all there; TEXT counts its n characters (R155). -/
def stepArgs (k : StepKind) (rest : List Byte) : Option (List Byte) :=
  let need := match k with
    | .text => match rest with
      | n :: _ => 1 + n.toNat
      | [] => 1
    | .load | .setchar | .copy => 2
    | .digits | .mark | .put | .fill | .blankzero => 1
    | .force | .line | .endStep => 0
  if need ≤ rest.length then some (rest.take need) else none

/-- What the composer finds at the template cursor (R155): no room for a step, a code of none of the
twelve steps, or a step with its argument bytes. -/
inductive NextStep where
  | overrun
  | badStep
  | step (kind : StepKind) (args : List Byte)
  deriving DecidableEq, Repr

/-- The step at the template cursor (R155, checks 1 and 2). -/
def nextStep (c : Composition) : NextStep :=
  match c.template.drop c.cursor with
  | [] => .overrun
  | code :: rest =>
    match stepOf code with
    | none => .badStep
    | some k => match stepArgs k rest with
      | none => .overrun
      | some args => .step k args

/-! ### Carrying a step out -/

/-- What carrying out a step gives: the working state after it, or a fault. -/
inductive StepResult where
  | go (c : Composition)
  | fault (f : TemplateFault)
  deriving DecidableEq, Repr

/-- Characters are added to the output text; one that would make it longer than 240 codes faults LONG
(R155). -/
def emit (c : Composition) (chars : List Byte) : StepResult :=
  if c.output.length + chars.length ≤ 240 then .go { c with output := c.output ++ chars }
  else .fault .long

/-- Special character k (R149). -/
def special (sp : Specials) (k : Nat) : Byte :=
  match k with
  | 0 => sp.fill
  | 1 => sp.point
  | 2 => sp.overflow
  | _ => sp.separator

/-- Special character k is set to a character (R149, R156). -/
def setSpecial (sp : Specials) (k : Nat) (ch : Byte) : Specials :=
  match k with
  | 0 => { sp with fill := ch }
  | 1 => { sp with point := ch }
  | 2 => { sp with overflow := ch }
  | _ => { sp with separator := ch }

/-- TEXT n: the n characters that follow it are emitted (R156). -/
def textStep (c : Composition) (args : List Byte) : StepResult :=
  match args with
  | n :: chars => if 1 ≤ n.toNat ∧ n.toNat ≤ 64 then emit c chars else .fault .badStep
  | [] => .fault .badStep

/-- The numeric fields of a dispatch record (R157). -/
def numericField (r : DispatchRecord) (field : Nat) : Option Nat :=
  match field with
  | 1 => some r.number
  | 2 => some r.count
  | 3 => some (labelArea r.area)
  | 4 => some r.nominal
  | 5 => some r.width
  | 6 => some r.grade
  | 7 => some (r.bay.val + 1)
  | 8 => some r.first.toNat
  | 9 => some r.last.toNat
  | 10 => some r.reprints
  | _ => none

/-- A value as w decimal digits, most significant first, with leading zeros (R157). -/
def decimal (w v : Nat) : List Nat := (List.range w).map (fun i => v / 10 ^ (w - 1 - i) % 10)

/-- LOAD field, width w: the value is placed in the digit register, or the register is marked
overflowed (R157). -/
def loadStep (c : Composition) (args : List Byte) : StepResult :=
  match args with
  | [f, wb] =>
    let w := wb.toNat
    match numericField c.record f.toNat with
    | none => .fault .badStep
    | some v =>
      if 1 ≤ w ∧ w ≤ 10 then
        let tooWide := decide (10 ^ w ≤ v)
        .go
          { c with
            digits := if tooWide then [] else decimal w v
            remaining := w
            overflowed := tooWide
            loaded := true
            significance := false
            zero := v == 0
            loadMark := c.output.length
            overflowSeen := if tooWide then c.overflowSeen <|> some f.toNat else c.overflowSeen }
      else .fault .badStep
  | _ => .fault .badStep

/-- The digit at a place of the register, as emitted, with the significance toggle after it (R158). -/
def emitDigit (sp : Specials) (sig : Bool) (d : Nat) : Byte × Bool :=
  if d = 0 ∧ sig = false then (sp.fill, false) else (BitVec.ofNat 8 (48 + d), true)

/-- The characters DIGITS emits for the digits taken, and the significance toggle after them (R158). -/
def emitDigits (sp : Specials) (sig : Bool) : List Nat → List Byte × Bool
  | [] => ([], sig)
  | d :: rest =>
    let (ch, sig) := emitDigit sp sig d
    let (chs, sig) := emitDigits sp sig rest
    (ch :: chs, sig)

/-- DIGITS n: the next n digits of the register are emitted, filled until the first significant one, or
n overflow characters when the register is overflowed; fault EXHAUSTED when they are not at hand
(R155, R158). -/
def digitsStep (c : Composition) (args : List Byte) : StepResult :=
  match args with
  | [nb] =>
    let n := nb.toNat
    if 1 ≤ n ∧ n ≤ 10 then
      if c.loaded = false ∨ c.remaining < n then .fault .exhausted
      else
        let c' := { c with remaining := c.remaining - n }
        if c.overflowed then emit c' (List.replicate n c.specials.overflow)
        else
          let taken := (c.digits.drop (c.digits.length - c.remaining)).take n
          let (chars, sig) := emitDigits c.specials c.significance taken
          emit { c' with significance := sig } chars
    else .fault .badStep
  | _ => .fault .badStep

/-- FORCE: the significance toggle is set true (R158). -/
def forceStep (c : Composition) (_ : List Byte) : StepResult := .go { c with significance := true }

/-- MARK k: special character k when the significance toggle is true, special character 0 when it is
false (R156). -/
def markStep (c : Composition) (args : List Byte) : StepResult :=
  match args with
  | [k] =>
    if k.toNat ≤ 3 then emit c [if c.significance then special c.specials k.toNat else c.specials.fill]
    else .fault .badStep
  | _ => .fault .badStep

/-- PUT k: special character k (R156). -/
def putStep (c : Composition) (args : List Byte) : StepResult :=
  match args with
  | [k] => if k.toNat ≤ 3 then emit c [special c.specials k.toNat] else .fault .badStep
  | _ => .fault .badStep

/-- FILL n: special character 0, n times (R156). -/
def fillStep (c : Composition) (args : List Byte) : StepResult :=
  match args with
  | [n] =>
    if 1 ≤ n.toNat ∧ n.toNat ≤ 64 then emit c (List.replicate n.toNat c.specials.fill)
    else .fault .badStep
  | _ => .fault .badStep

/-- SETCHAR k, c: special character k is set to c for the rest of the composition (R156). -/
def setcharStep (c : Composition) (args : List Byte) : StepResult :=
  match args with
  | [k, ch] =>
    if k.toNat ≤ 3 then .go { c with specials := setSpecial c.specials k.toNat ch }
    else .fault .badStep
  | _ => .fault .badStep

/-- The text fields, each at its full length (R160). -/
def textFieldOf (c : Composition) (field : Nat) : Option (List Byte) :=
  match field with
  | 1 => some (textField 12 c.gradeName)
  | 2 => some (textField 12 c.record.lot)
  | 3 => some (textField 10 c.record.date)
  | 4 => some (textField 8 c.lineName)
  | _ => none

/-- COPY field, width: the first width characters of the field, or the whole field followed by special
character 0 (R160). -/
def copyStep (c : Composition) (args : List Byte) : StepResult :=
  match args with
  | [f, wb] =>
    let w := wb.toNat
    match textFieldOf c f.toNat with
    | none => .fault .badStep
    | some t =>
      if 1 ≤ w ∧ w ≤ 12 then
        emit c (t.take w ++ List.replicate (w - t.length) c.specials.fill)
      else .fault .badStep
  | _ => .fault .badStep

/-- BLANKZERO n: when the zero toggle is true, the output is cut back to the load mark and special
character 0 is emitted n times (R159). -/
def blankzeroStep (c : Composition) (args : List Byte) : StepResult :=
  match args with
  | [n] =>
    if n.toNat ≤ 64 then
      if c.zero then
        emit { c with output := c.output.take c.loadMark } (List.replicate n.toNat c.specials.fill)
      else .go c
    else .fault .badStep
  | _ => .fault .badStep

/-- LINE: the line end, code 10 (R156). -/
def lineStep (c : Composition) (_ : List Byte) : StepResult := emit c [10]

/-! ### How a composition ends (R161, R162) -/

/-- A fault ends the composition without a label: the record is FAILED, its bay BLOCKED (R162). -/
def composeFault (f : TemplateFault) (c : Composition) (s : State) : State :=
  let b := c.record.bay
  let last : LastFault := { fault := f, slot := c.slot, cursor := c.cursor }
  let s := { s with labels.composing := none }
  let s := setBay b .blocked (setLabel b (.failed (.template f)) s)
  let s := give (.failedTemplate b c.record.number last) s
  composerBegin
    { s with labels.faults := sat16 s.labels.faults, labels.lastFault := some last }

/-- Each internal code of the output text is replaced by its entry in the translate table (R150). -/
def translateText (cfg : WorkingConfig) (t : List Byte) : List Byte :=
  t.map (fun code => cfg.translate.getD code.toNat code)

/-- The field-overflow mark of the record is set, with its event and counter, when a numeric field lost
significance (R161 step 4). -/
def reportOverflow (c : Composition) (s : State) : State :=
  match c.overflowSeen with
  | none => s
  | some field =>
    let s := modifyRecord c.record.bay (fun r => { r with overflowed := true }) s
    let s := give (.fieldOverflow c.record.bay c.record.number field) s
    { s with labels.overflows := sat16 s.labels.overflows }

/-- END: the text is translated and the label joins the label queue (R161). -/
def completeComposition (c : Composition) (s : State) : State :=
  let label : Label :=
    { number := c.record.number, bay := c.record.bay, text := translateText s.cfg c.output
      printed := false }
  let s := setLabel c.record.bay .queued { s with labels.queue := s.labels.queue ++ [label] }
  let s := reportOverflow c s
  let s := { s with labels.completed := sat16 s.labels.completed }
  composerBegin (sendingTest { s with labels.composing := none })

/-! ### The rows of the composer -/

/-- The outcome of a step: the working state with the cursor moved past the step, or the fault. -/
def finishStep (c : Composition) (size : Nat) (r : StepResult) (s : State) : State :=
  match r with
  | .go c' => { s with labels.composing := some { c' with cursor := c.cursor + size } }
  | .fault f => composeFault f c s

/-- A step row: the composer reads and carries out the step at its cursor when it is of this kind.
With no composition in hand, or another step at the cursor, this event does not occur and nothing
changes (notes/assumptions/4.md). -/
def runStep (k : StepKind) (step : Composition → List Byte → StepResult) (s : State) : State :=
  match s.labels.composing with
  | none => s
  | some c => match nextStep c with
    | .step k' args => if k' = k then finishStep c (1 + args.length) (step c args) s else s
    | _ => s

/-- The step row END (R161). -/
def runEnd (s : State) : State :=
  match s.labels.composing with
  | none => s
  | some c => match nextStep c with
    | .step .endStep _ => completeComposition c s
    | _ => s

/-- The row OVERRUN: the template ends, or a step's bytes run past it, without END (R155). -/
def runOverrun (s : State) : State :=
  match s.labels.composing with
  | none => s
  | some c => if nextStep c = .overrun then composeFault .overrun c s else s

/-- The row BADSTEP: the step code is none of the twelve (R155). -/
def runBadStep (s : State) : State :=
  match s.labels.composing with
  | none => s
  | some c => if nextStep c = .badStep then composeFault .badStep c s else s

/-! ### Meanings -/

def execText (s : State) : Host.Outcome State Fault Refusal := live s (runStep .text textStep)
def execLoad (s : State) : Host.Outcome State Fault Refusal := live s (runStep .load loadStep)
def execDigits (s : State) : Host.Outcome State Fault Refusal := live s (runStep .digits digitsStep)
def execForce (s : State) : Host.Outcome State Fault Refusal := live s (runStep .force forceStep)
def execMark (s : State) : Host.Outcome State Fault Refusal := live s (runStep .mark markStep)
def execPut (s : State) : Host.Outcome State Fault Refusal := live s (runStep .put putStep)
def execFill (s : State) : Host.Outcome State Fault Refusal := live s (runStep .fill fillStep)
def execSetchar (s : State) : Host.Outcome State Fault Refusal := live s (runStep .setchar setcharStep)
def execCopy (s : State) : Host.Outcome State Fault Refusal := live s (runStep .copy copyStep)
def execBlankzero (s : State) : Host.Outcome State Fault Refusal :=
  live s (runStep .blankzero blankzeroStep)
def execLine (s : State) : Host.Outcome State Fault Refusal := live s (runStep .line lineStep)
def execEnd (s : State) : Host.Outcome State Fault Refusal := live s runEnd
def execOverrun (s : State) : Host.Outcome State Fault Refusal := live s runOverrun
def execBadstep (s : State) : Host.Outcome State Fault Refusal := live s runBadStep

end Sys2Proof.Machine
end

