-- ==== Sys2Proof/Machine/Bundles.lean ====
section
/-! DEFINITION. Machine/Bundles.lean: the Bundle Unit (spec/08): commitment, counting of drops,
closing, the run-end closure, and the end of a dispatch. -/

namespace Sys2Proof.Machine

/-- A fresh bundle: an empty bundle of the bay's key (R132). -/
def OpenBundle.fresh (key : Key) : OpenBundle :=
  { key := key, limits := none, committed := 0, committedArea := 0, dropped := 0, droppedArea := 0
    first := none, last := none, lot := none, closeReason := none }

/-- The bundle a role gives its bay: a fresh one of its key for GRADED, none otherwise (R132). -/
def Role.bundle : Role → Option OpenBundle
  | .graded key => some (OpenBundle.fresh key)
  | _ => none

/-- The strip area of a bundle with these limits: class nominal times width (R134). -/
def BundleLimits.stripArea (l : BundleLimits) : Nat := l.nominal * l.width

/-- The nominal length of class c: M + c·S (R59). -/
def ClassSettings.nominal (cl : ClassSettings) (c : Nat) : Nat := cl.m + c * cl.s

/-- The limits a bundle of a key takes at its first commitment (R134). -/
def bundleLimits (cfg : WorkingConfig) (key : Key) : BundleLimits :=
  { nominal := cfg.classes.nominal key.cls, width := cfg.line.width
    target := cfg.bundling.target * 1000, maxStrips := cfg.bundling.maxStrips }

/-- The open bundle of a bay is set. -/
def setBundle (b : Bay) (o : Option OpenBundle) (s : State) : State :=
  { s with bundles.bundles := s.bundles.bundles.set b o }

/-- The limits in force for a bundle: its own, taken first when it is empty (R134). -/
def OpenBundle.limitsNow (o : OpenBundle) (cfg : WorkingConfig) : BundleLimits :=
  if o.committed = 0 then bundleLimits cfg o.key else o.limits.getD (bundleLimits cfg o.key)

/-- A bundle after one more commitment (R134). -/
def OpenBundle.commit (o : OpenBundle) (cfg : WorkingConfig) : OpenBundle :=
  let l := o.limitsNow cfg
  { o with
    limits := some l
    committed := o.committed + 1
    committedArea := o.committedArea + l.stripArea }

/-- The fill test (R134): the reason for which a bundle just committed to becomes FILLED. -/
def OpenBundle.fillReason (o : OpenBundle) : Option CloseReason :=
  match o.limits with
  | none => none
  | some l =>
    if l.target ≤ o.committedArea then some .target
    else if o.committed = l.maxStrips then some .count
    else none

/-- A strip is committed to the open bundle of a graded bay (R134). -/
def commitTo (b : Bay) (s : State) : State :=
  match s.bundles.bundles[b] with
  | none => s
  | some o =>
    let o := o.commit s.cfg
    match o.fillReason with
    | none => setBundle b (some o) s
    | some r => setBay b .filled (setBundle b (some { o with closeReason := some r }) s)

/-- The next bundle number after n: it wraps from 999,999,999 to 1 (R139). -/
def bundleNumberAfter (n : Nat) : Nat := if n = 999999999 then 1 else n + 1

/-- The dispatch record made from a bundle at its close (R141). -/
def dispatchRecord (b : Bay) (o : OpenBundle) (reason : CloseReason) (s : State) : DispatchRecord :=
  let l := o.limits.getD (bundleLimits s.cfg o.key)
  { number := s.bundles.nextNumber, bay := b, grade := o.key.grade, nominal := l.nominal
    width := l.width, count := o.dropped, area := o.droppedArea, first := o.first.getD 0
    last := o.last.getD 0, lot := o.lot.getD (spaces 12), date := s.bundles.date, reason := reason
    label := .requested, reprints := 0, overflowed := false }

/-- A bundle closes: number, date text, dispatch record, composition request, CLOSING with a fresh
bundle, and the CLOSED event (R136). -/
def closeBundle (b : Bay) (o : OpenBundle) (reason : CloseReason) (s : State) : State :=
  let r := dispatchRecord b o reason s
  let s :=
    { s with
      bundles.nextNumber := bundleNumberAfter s.bundles.nextNumber
      bundles.dispatch := s.bundles.dispatch ++ [r] }
  let s := { s with labels.requests := s.labels.requests ++ [b] }
  let s := setBay b .closing (setBundle b (some (OpenBundle.fresh o.key)) s)
  composerBegin (give (.closed b r.number reason r.count r.area) s)

/-- The closing test: a FILLED bay whose dropped count equals its committed count closes (R136). -/
def closeTest (b : Bay) (s : State) : State :=
  match s.bundles.bundles[b], s.sort.bays[b].state with
  | some o, some .filled =>
    if o.dropped = o.committed then closeBundle b o (o.closeReason.getD .host) s else s
  | _, _ => s

/-- A bundle after a strip has been counted into it (R135). -/
def OpenBundle.drop (o : OpenBundle) (n : StripNo) (lot : List Byte) : OpenBundle :=
  let firstDrop := o.dropped = 0
  { o with
    dropped := o.dropped + 1
    droppedArea := o.droppedArea + (o.limits.map BundleLimits.stripArea).getD 0
    first := if firstDrop then some n else o.first
    lot := if firstDrop then some lot else o.lot
    last := some n }

/-- A strip is counted into the open bundle of its graded bay, and the closing test follows (R135). -/
def dropInto (b : Bay) (n : StripNo) (s : State) : State :=
  match s.bundles.bundles[b] with
  | none => s
  | some o => closeTest b (setBundle b (some (o.drop n s.bundles.lot)) s)

/-- One bay at the run-end closure: OPEN with a dropped count above 0 closes with reason RUN END (R138). -/
def runEndBay (s : State) (b : Bay) : State :=
  match s.bundles.bundles[b], s.sort.bays[b].state with
  | some o, some .opened => if 0 < o.dropped then closeBundle b o .runEnd s else s
  | _, _ => s

/-- The run-end closure, bays in ascending number (R138). -/
def runEndClosure (s : State) : State :=
  if s.cfg.bundling.closeAtRunEnd then allBays.foldl runEndBay s else s

/-- A dispatch record leaves the dispatch list and its bay becomes OPEN (R143). -/
def reopenBay (b : Bay) (s : State) : State :=
  setBay b .opened
    { s with bundles.dispatch := s.bundles.dispatch.filter (fun r => r.bay != b) }

/-- The dispatch of a bay's record completes: APPLIED, DISPATCHED with the whole record, bay OPEN
(R143). -/
def completeDispatch (b : Bay) (s : State) : State :=
  match s.record b with
  | none => s
  | some r => reopenBay b (give (.dispatched b { r with label := .applied }) s)

/-- A BLOCKED bay's record is released: RELEASED with the whole record, bay OPEN (R143). -/
def releaseRecord (b : Bay) (s : State) : State :=
  match s.record b with
  | none => s
  | some r => reopenBay b (give (.released b r) s)

end Sys2Proof.Machine
end

