-- ==== Sys2Proof/Machine/Printer.lean ====
section
/-! DEFINITION. Machine/Printer.lean: the Printer Port (spec/10): the printer's messages, the apply
timer and the outcomes of the label in flight. -/

namespace Sys2Proof.Machine

/-- A message of the printer has come whole: no printer-line frame is partly received. -/
def clearPrinterRx (s : State) : State := { s with printer.rx := { s.printer.rx with stage := .hunt } }

/-- The label in flight: the head of the label queue when one is in flight (R167). -/
def State.labelInFlight (s : State) : Option Label :=
  if s.printer.inFlight then s.labels.queue.head? else none

/-- Whether a bundle number names the label in flight (R169 to R171). -/
def namesInFlight (s : State) (bundle : BitVec 32) : Option Label :=
  match s.labelInFlight with
  | some l => if l.number = bundle.toNat then some l else none
  | none => none

/-- A stray printer message (R169). -/
def strayPrinter (kind : Byte) (bundle : BitVec 32) (s : State) : State :=
  let s := { s with printer.stray := sat16 s.printer.stray }
  give (.printerStray kind bundle) s

/-- The end of a label in flight: a pending IDLE event is given, then the sending test is made (R174).
The composer may begin, because a label has left the queue (R153). -/
def endLabel (s : State) : State :=
  let s :=
    if s.printer.idlePending then
      give (.printerIdle (some s.labels.queue.length)) { s with printer.idlePending := false }
    else s
  composerBegin (sendingTest s)

/-- The label in flight leaves the head of the queue and its timer is stopped (R170, R171, R172). -/
def dropLabel (s : State) : State :=
  { s with labels.queue := s.labels.queue.tail, printer.inFlight := false, printer.applyExpiry := none }

/-- The label in flight fails: its record is FAILED, its bay BLOCKED, and it becomes the last failed
label (R171, R172). -/
def failLabel (l : Label) (cause : FailCause) (s : State) : State :=
  let s := setBay l.bay .blocked (setLabel l.bay (.failed cause) (dropLabel s))
  { s with printer.lastFailed := some (l.number, l.bay) }

/-- READY: the ready flag becomes seen and the sending test is made (R167, R168). -/
def takeReady (s : State) : State :=
  sendingTest (clearPrinterRx { s with printer.ready := true })

/-- PRINTED: the printed mark of the label in flight is set, or the message is stray (R169). -/
def takePrinted (bundle : BitVec 32) (s : State) : State :=
  let s := clearPrinterRx s
  match namesInFlight s bundle with
  | some l =>
    setLabel l.bay .printed
      { s with labels.queue := { l with printed := true } :: s.labels.queue.tail }
  | none => strayPrinter 0x23 bundle s

/-- APPLIED: the dispatch completes, a late apply is noted, or the message is stray (R170). -/
def takeApplied (bundle : BitVec 32) (s : State) : State :=
  let s := clearPrinterRx s
  match namesInFlight s bundle with
  | some l =>
    let s := completeDispatch l.bay (dropLabel s)
    endLabel { s with printer.applied := sat16 s.printer.applied }
  | none =>
    match s.printer.lastFailed with
    | some (n, b) =>
      if n = bundle.toNat then
        give (.lateApply b n) { s with printer.lateApplies := sat16 s.printer.lateApplies }
      else strayPrinter 0x24 bundle s
    | none => strayPrinter 0x24 bundle s

/-- FAULT: the label in flight fails with cause PRINTER, or the message is stray (R171). -/
def takePrinterFault (bundle : BitVec 32) (code : Byte) (s : State) : State :=
  let s := clearPrinterRx s
  match namesInFlight s bundle with
  | some l =>
    let s := give (.failedPrinter l.bay l.number code) (failLabel l (.printer code) s)
    endLabel { s with printer.faults := sat16 s.printer.faults }
  | none => strayPrinter 0x25 bundle s

/-- The apply timer reaches its expiry with the label still in flight: the label fails with cause
TIMEOUT (R172). Before the expiry this event does not occur (notes/assumptions/3.md). -/
def expireApply (s : State) : State :=
  match s.printer.applyExpiry, s.labelInFlight with
  | some t, some l =>
    if t ≤ s.now then
      let s := give (.failedTimeout l.bay l.number) (failLabel l .timeout s)
      endLabel { s with printer.timeouts := sat16 s.printer.timeouts }
    else s
  | _, _ => s

def execPrinterReady (s : State) : Host.Outcome State Fault Refusal := live s takeReady
def execPrinted (bundle : BitVec 32) (s : State) : Host.Outcome State Fault Refusal :=
  live s (takePrinted bundle)
def execApplied (bundle : BitVec 32) (s : State) : Host.Outcome State Fault Refusal :=
  live s (takeApplied bundle)
def execPrinterFault (bundle : BitVec 32) (code : Byte) (s : State) :
    Host.Outcome State Fault Refusal :=
  live s (takePrinterFault bundle code)
def execApplyTimeout (s : State) : Host.Outcome State Fault Refusal := live s expireApply

end Sys2Proof.Machine
end

