-- ==== Sys2Proof/Machine/Operands.lean ====
section
/-! DEFINITION. Machine/Operands.lean: the operands of requests: the fields of a body or a configuration
section, their ranges, and what becomes of a field out of range (R182, R189, R195; spec/13, 13.7). -/

namespace Sys2Proof.Machine

/-! ### Fields -/

/-- The form of a field: an integer of so many bytes with its range, which is refused or clamped out of
range (R189), or a text of so many characters (R195). -/
inductive FieldForm where
  | num (bytes lo hi : Nat) (clamped : Bool)
  | text (len : Nat)
  deriving DecidableEq, Repr

/-- What a field carries. -/
inductive FieldValue where
  | num (n : Nat)
  | text (t : List Byte)
  deriving DecidableEq, Repr

/-- A field refused out of its range. -/
def refuseNum (bytes lo hi : Nat) : FieldForm := .num bytes lo hi false

/-- A field clamped to its range. -/
def clampNum (bytes lo hi : Nat) : FieldForm := .num bytes lo hi true

/-- The size of a field in bytes. -/
def FieldForm.size : FieldForm → Nat
  | .num b _ _ _ => b
  | .text n => n

/-- The size of a sequence of fields. -/
def formsSize (fs : List FieldForm) : Nat := (fs.map FieldForm.size).sum

/-- The values that bytes carry, field after field (R195). -/
def readFields : List FieldForm → List Byte → List FieldValue
  | [], _ => []
  | .num b _ _ _ :: fs, bytes => .num (readLe (bytes.take b)) :: readFields fs (bytes.drop b)
  | .text n :: fs, bytes => .text (bytes.take n) :: readFields fs (bytes.drop n)

/-- The bytes of one field (R195). -/
def FieldForm.encode : FieldForm → FieldValue → List Byte
  | .num 1 _ _ _, .num n => u8 n
  | .num 2 _ _ _, .num n => u16 n
  | .num _ _ _ _, .num n => u32 n
  | .text len, .text t => textField len t
  | _, _ => []

/-- The bytes of a sequence of fields (R195). -/
def encodeFields : List FieldForm → List FieldValue → List Byte
  | f :: fs, v :: vs => f.encode v ++ encodeFields fs vs
  | _, _ => []

/-- Whether a value lies outside its field's range. -/
def FieldForm.outside : FieldForm → FieldValue → Bool
  | .num _ lo hi _, .num n => n < lo || hi < n
  | _, _ => false

/-- Whether a field out of range is clamped. -/
def FieldForm.clamps : FieldForm → Bool
  | .num _ _ _ c => c
  | .text _ => false

/-- The index, counted on from `i`, of the first field out of a range that refuses (R182, R190). -/
def firstRefused (i : Nat) : List FieldForm → List FieldValue → Option Nat
  | f :: fs, v :: vs =>
    if f.outside v && !f.clamps then some i else firstRefused (i + 1) fs vs
  | _, _ => none

/-- A value brought into its field's range (R94, R125, R133). -/
def FieldForm.clampTo : FieldForm → FieldValue → FieldValue
  | .num _ lo hi true, .num n => .num (max lo (min n hi))
  | _, v => v

/-- The values after clamping. -/
def clampFields : List FieldForm → List FieldValue → List FieldValue
  | f :: fs, v :: vs => f.clampTo v :: clampFields fs vs
  | _, _ => []

/-- How many fields are clamped (R190). -/
def countClamped : List FieldForm → List FieldValue → Nat
  | f :: fs, v :: vs => (if f.outside v && f.clamps then 1 else 0) + countClamped fs vs
  | _, _ => 0

/-- A text the host writes: each character outside the allowed set is replaced by the substitute
character (R151). -/
def substituteText (allowed : BitVec 256) (sub : Byte) (t : List Byte) : List Byte :=
  t.map (fun c => if allowed.getLsbD c.toNat then c else sub)

/-- How many characters of a text are replaced (R151). -/
def countReplaced (allowed : BitVec 256) (t : List Byte) : Nat :=
  t.countP (fun c => !allowed.getLsbD c.toNat)

/-- A field's text after substitution; integers stay. -/
def FieldValue.substitute (allowed : BitVec 256) (sub : Byte) : FieldValue → FieldValue
  | .num n => .num n
  | .text t => .text (substituteText allowed sub t)

/-- How many characters of a field are replaced. -/
def FieldValue.replaced (allowed : BitVec 256) : FieldValue → Nat
  | .num _ => 0
  | .text t => countReplaced allowed t

/-- The integer of field i, counted from 0. -/
def numAt (vs : List FieldValue) (i : Nat) : Nat :=
  match vs[i]? with
  | some (.num n) => n
  | _ => 0

/-- The text of field i, counted from 0. -/
def textAt (vs : List FieldValue) (i : Nat) : List Byte :=
  match vs[i]? with
  | some (.text t) => t
  | _ => []

/-! ### Sections (spec/13, 13.7) -/

/-- The sections of the working configuration, PRICES in its eight parts and TRANSLATE in its two halves
(R189; spec/13, 13.7). -/
inductive Section where
  | line | classes | grades
  | prices (g : Fin 8)
  | cutting | heads | bays | bundling | supervision | label
  | template (k : Fin 8)
  | translateLow | translateHigh
  deriving DecidableEq, Repr

/-- The section a number names (spec/13, 13.7). -/
def sectionOf (n : Nat) : Option Section :=
  if n = 1 then some .line
  else if n = 2 then some .classes
  else if n = 3 then some .grades
  else if 4 ≤ n ∧ n ≤ 11 then some (.prices (Fin.ofNat 8 (n - 4)))
  else if n = 12 then some .cutting
  else if n = 13 then some .heads
  else if n = 14 then some .bays
  else if n = 15 then some .bundling
  else if n = 16 then some .supervision
  else if n = 17 then some .label
  else if 18 ≤ n ∧ n ≤ 25 then some (.template (Fin.ofNat 8 (n - 18)))
  else if n = 26 then some .translateLow
  else if n = 27 then some .translateHigh
  else none

/-- Whether a section is writable only in START and READY (R189). -/
def Section.locked : Section → Bool
  | .line | .classes | .grades | .prices _ | .cutting | .bays => true
  | .heads | .bundling | .supervision | .label | .template _ | .translateLow | .translateHigh => false

/-- The LINE section: station points take 0 to 65,535 and the width 0 to 255 (R1, R3, R13, R93, R189). -/
def lineForms : List FieldForm :=
  [refuseNum 1 1 16, refuseNum 1 1 20, refuseNum 1 1 20] ++ List.replicate 19 (refuseNum 2 0 65535) ++
    [refuseNum 1 5 100, refuseNum 2 20 300, refuseNum 1 0 255, .text 8]

/-- The CLASSES section (R59). -/
def classesForms : List FieldForm := [refuseNum 2 200 1200, refuseNum 2 50 600, refuseNum 1 1 16]

/-- One grade: its name and its six pairs of limits (R60). -/
def gradeForms : List FieldForm :=
  .text 12 :: (List.replicate 6 [refuseNum 1 0 255, refuseNum 1 0 15]).flatten

/-- The GRADES section (R60). -/
def gradesForms : List FieldForm := refuseNum 1 1 8 :: (List.replicate 8 gradeForms).flatten

/-- One part of PRICES (R61). -/
def pricesForms : List FieldForm := List.replicate 16 (refuseNum 2 0 9999)

/-- The CUTTING section (R62). -/
def cuttingForms : List FieldForm :=
  [refuseNum 1 0 20, refuseNum 1 0 60, refuseNum 1 0 60, refuseNum 1 5 50]

/-- One head's nine settings: codes refused, thresholds and the confirm count clamped (R94). -/
def headForms : List FieldForm :=
  [refuseNum 1 0 1, refuseNum 1 0 1, refuseNum 1 0 1, refuseNum 1 0 1, clampNum 2 0 1023,
    clampNum 2 0 1023, clampNum 2 0 1023, clampNum 2 0 1023, clampNum 1 1 4]

/-- The HEADS section (R94, R107). -/
def headsForms : List FieldForm :=
  (List.replicate 6 headForms).flatten ++
    [clampNum 1 0 120, clampNum 1 0 255, clampNum 1 0 255, clampNum 1 0 255]

/-- One bay of BAYS: a key's ranges hold for role GRADED only (R115, R127). -/
def bayForms (role : Nat) : List FieldForm :=
  if role = 0 then [refuseNum 1 0 3, refuseNum 1 1 8, refuseNum 1 0 15]
  else [refuseNum 1 0 3, refuseNum 1 0 255, refuseNum 1 0 255]

/-- The BAYS section for the roles given. -/
def baysForms (roles : List Nat) : List FieldForm := roles.flatMap bayForms

/-- The BUNDLING section (R125, R133). -/
def bundlingForms : List FieldForm :=
  [clampNum 2 100 9999, clampNum 1 1 250, refuseNum 1 0 1] ++ List.replicate 13 (clampNum 2 1 999)

/-- The SUPERVISION section (R33, R39). -/
def supervisionForms : List FieldForm := [refuseNum 1 0 5, refuseNum 1 0 1]

/-- The LABEL section (R147, R151, R168). -/
def labelForms : List FieldForm := [refuseNum 1 1 8, refuseNum 1 2 60, refuseNum 1 0 255]

/-- One half of TRANSLATE: 128 entries and 16 bytes of the allowed set (R150, R151). -/
def translateForms : List FieldForm := List.replicate 144 (refuseNum 1 0 255)

/-- The roles that the bytes of a BAYS section carry. -/
def rolesIn (bytes : List Byte) : List Nat :=
  (List.range 12).map (fun i => (bytes.getD (3 * i) 0).toNat)

/-- The fields of a section whose bytes are given; a TEMPLATE section has none. -/
def Section.forms (bytes : List Byte) : Section → List FieldForm
  | .line => lineForms
  | .classes => classesForms
  | .grades => gradesForms
  | .prices _ => pricesForms
  | .cutting => cuttingForms
  | .heads => headsForms
  | .bays => baysForms (rolesIn bytes)
  | .bundling => bundlingForms
  | .supervision => supervisionForms
  | .label => labelForms
  | .template _ => []
  | .translateLow | .translateHigh => translateForms

/-- Whether a body fits a section's size: 0 to 192 bytes for a TEMPLATE section (R190; spec/13, 13.7). -/
def Section.fits (sec : Section) (bytes : List Byte) : Bool :=
  match sec with
  | .template _ => bytes.length ≤ 192
  | _ => bytes.length == formsSize (sec.forms bytes)

/-! ### Sections into settings -/

/-- An enabled, diagnostics, mask or yes-no code: 1 is yes (R195). -/
def yes (n : Nat) : Bool := n == 1

/-- The LINE settings of its fields. -/
def lineOf (vs : List FieldValue) : LineSettings :=
  { countsPerMm := numAt vs 0, eyeInFilter := numAt vs 1, eyeCkFilter := numAt vs 2
    psc := numAt vs 3, pmo := numAt vs 4, pdp := numAt vs 5, pem := numAt vs 6, pck := numAt vs 7
    psa := numAt vs 8, pb := Vector.ofFn (fun i => numAt vs (9 + i.val)), pend := numAt vs 21
    checkTolerance := numAt vs 22, settle := numAt vs 23, width := numAt vs 24
    lineName := textAt vs 25 }

/-- Grade i of the GRADES fields. -/
def gradeOf (vs : List FieldValue) (i : Nat) : Grade :=
  { name := textAt vs (1 + 13 * i)
    limits := Vector.ofFn (fun k =>
      { sevMax := numAt vs (2 + 13 * i + 2 * k.val), cntMax := numAt vs (3 + 13 * i + 2 * k.val) }) }

/-- The policy of a code (R93). -/
def policyOf (n : Nat) : Policy := if n = 1 then .stop else .isolate

/-- Head i of the HEADS fields. -/
def headOf (vs : List FieldValue) (i : Nat) : HeadSettings :=
  { enabled := yes (numAt vs (9 * i)), diagnostics := yes (numAt vs (9 * i + 1))
    masked := yes (numAt vs (9 * i + 2)), policy := policyOf (numAt vs (9 * i + 3))
    cutAbsent := numAt vs (9 * i + 4), overload := numAt vs (9 * i + 5)
    idleMin := numAt vs (9 * i + 6), idleMax := numAt vs (9 * i + 7)
    confirm := numAt vs (9 * i + 8) }

/-- The role of a role code with its grade and class (spec/13, 13.1). -/
def roleOf (role grade cls : Nat) : Role :=
  if role = 0 then .graded { grade := grade, cls := cls }
  else if role = 1 then .regrade
  else if role = 2 then .mixed
  else .disabled

/-- The keep-alive period of a code (spec/13, 13.7). -/
def periodOf (n : Nat) : Period :=
  match n with
  | 0 => .ms100 | 1 => .ms200 | 2 => .ms500 | 3 => .ms1000 | 4 => .ms2000 | _ => .off

/-- 128 entries of a table replaced, the low half or the high (spec/13, 13.7). -/
def replaceHalf (high : Bool) (table half : List Byte) : List Byte :=
  if high then table.take 128 ++ half else half ++ table.drop 128

/-- 128 bits of the allowed set replaced, the low half or the high (spec/13, 13.1, 13.7). -/
def replaceAllowed (high : Bool) (old : BitVec 256) (half : List Byte) : BitVec 256 :=
  let bits := BitVec.ofNat 128 (readLe half)
  if high then bits ++ old.extractLsb' 0 128 else old.extractLsb' 128 128 ++ bits

/-- A half of TRANSLATE written (spec/13, 13.7). -/
def writeTranslate (high : Bool) (bytes : List Byte) (cfg : WorkingConfig) : WorkingConfig :=
  { cfg with
    translate := replaceHalf high cfg.translate (bytes.take 128)
    allowed := replaceAllowed high cfg.allowed (bytes.drop 128) }

/-- The working configuration with a section replaced whole by fields in range (R190). `bytes` are a
TEMPLATE section's or a TRANSLATE half's own. -/
def Section.write (sec : Section) (vs : List FieldValue) (bytes : List Byte) (cfg : WorkingConfig) :
    WorkingConfig :=
  match sec with
  | .line => { cfg with line := lineOf vs }
  | .classes => { cfg with classes := { m := numAt vs 0, s := numAt vs 1, n := numAt vs 2 } }
  | .grades =>
    { cfg with grades := { count := numAt vs 0, grades := Vector.ofFn (fun i => gradeOf vs i.val) } }
  | .prices g => { cfg with prices := cfg.prices.set g (Vector.ofFn (fun c => numAt vs c.val)) }
  | .cutting =>
    { cfg with cutting := { tg := numAt vs 0, h0 := numAt vs 1, t0 := numAt vs 2, q := numAt vs 3 } }
  | .heads =>
    { cfg with
      heads :=
        { head := Vector.ofFn (fun i => headOf vs i.val), minSpeed := numAt vs 54
          preWarning := numAt vs 55, shutdown := numAt vs 56, hysteresis := numAt vs 57 } }
  | .bays =>
    { cfg with
      bays := Vector.ofFn (fun i =>
        roleOf (numAt vs (3 * i.val)) (numAt vs (3 * i.val + 1)) (numAt vs (3 * i.val + 2))) }
  | .bundling =>
    { cfg with
      bundling :=
        { target := numAt vs 0, maxStrips := numAt vs 1, closeAtRunEnd := yes (numAt vs 2)
          capacity := Vector.ofFn (fun i => numAt vs (3 + i.val)), chuteCapacity := numAt vs 15 } }
  | .supervision =>
    { cfg with supervision := { period := periodOf (numAt vs 0), guardEnable := yes (numAt vs 1) } }
  | .label =>
    { cfg with
      label :=
        { slot := Fin.ofNat 8 (numAt vs 0 - 1), applyTimeout := numAt vs 1
          substitute := BitVec.ofNat 8 (numAt vs 2) } }
  | .template k => { cfg with templates := cfg.templates.set k bytes }
  | .translateLow => writeTranslate false bytes cfg
  | .translateHigh => writeTranslate true bytes cfg

/-! ### Settings into sections -/

/-- An integer field. -/
def nv (n : Nat) : FieldValue := .num n

/-- A yes-no field (R195). -/
def bv (b : Bool) : FieldValue := .num (if b then 1 else 0)

/-- The fields of the LINE settings. -/
def lineValues (l : LineSettings) : List FieldValue :=
  [nv l.countsPerMm, nv l.eyeInFilter, nv l.eyeCkFilter, nv l.psc, nv l.pmo, nv l.pdp, nv l.pem,
    nv l.pck, nv l.psa] ++ l.pb.toList.map nv ++
    [nv l.pend, nv l.checkTolerance, nv l.settle, nv l.width, .text l.lineName]

/-- The fields of one grade. -/
def gradeValues (g : Grade) : List FieldValue :=
  .text g.name :: g.limits.toList.flatMap (fun l => [nv l.sevMax, nv l.cntMax])

/-- The fields of one head. -/
def headValues (h : HeadSettings) : List FieldValue :=
  [bv h.enabled, bv h.diagnostics, bv h.masked, nv (match h.policy with
    | .isolate => 0
    | .stop => 1), nv h.cutAbsent, nv h.overload, nv h.idleMin, nv h.idleMax, nv h.confirm]

/-- The fields of one bay. An absent key is carried as grade 0 and class 0xFF (R195;
notes/assumptions/30.md). -/
def bayValues : Role → List FieldValue
  | .graded k => [nv 0, nv k.grade, nv k.cls]
  | .regrade => [nv 1, nv 0, nv 255]
  | .mixed => [nv 2, nv 0, nv 255]
  | .disabled => [nv 3, nv 0, nv 255]

/-- The code of a keep-alive period (spec/13, 13.7). -/
def periodCode : Period → Nat
  | .ms100 => 0 | .ms200 => 1 | .ms500 => 2 | .ms1000 => 3 | .ms2000 => 4 | .off => 5

/-- The bytes of a half of TRANSLATE (spec/13, 13.7). -/
def translateBytes (high : Bool) (cfg : WorkingConfig) : List Byte :=
  (if high then (cfg.translate.drop 128).take 128 else cfg.translate.take 128) ++
    (List.range 16).map (fun i => cfg.allowed.extractLsb' (8 * ((if high then 16 else 0) + i)) 8)

/-- The bytes of a section as it stands (R190; spec/13, 13.7). -/
def Section.bytes (cfg : WorkingConfig) : Section → List Byte
  | .line => encodeFields lineForms (lineValues cfg.line)
  | .classes => encodeFields classesForms [nv cfg.classes.m, nv cfg.classes.s, nv cfg.classes.n]
  | .grades =>
    encodeFields gradesForms
      (nv cfg.grades.count :: cfg.grades.grades.toList.flatMap gradeValues)
  | .prices g => encodeFields pricesForms ((cfg.prices[g]).toList.map nv)
  | .cutting =>
    encodeFields cuttingForms
      [nv cfg.cutting.tg, nv cfg.cutting.h0, nv cfg.cutting.t0, nv cfg.cutting.q]
  | .heads =>
    encodeFields headsForms
      (cfg.heads.head.toList.flatMap headValues ++
        [nv cfg.heads.minSpeed, nv cfg.heads.preWarning, nv cfg.heads.shutdown,
          nv cfg.heads.hysteresis])
  | .bays => encodeFields (baysForms (List.replicate 12 3)) (cfg.bays.toList.flatMap bayValues)
  | .bundling =>
    encodeFields bundlingForms
      ([nv cfg.bundling.target, nv cfg.bundling.maxStrips, bv cfg.bundling.closeAtRunEnd] ++
        cfg.bundling.capacity.toList.map nv ++ [nv cfg.bundling.chuteCapacity])
  | .supervision =>
    encodeFields supervisionForms
      [nv (periodCode cfg.supervision.period), bv cfg.supervision.guardEnable]
  | .label =>
    encodeFields labelForms
      [nv (cfg.label.slot.val + 1), nv cfg.label.applyTimeout, nv cfg.label.substitute.toNat]
  | .template k => cfg.templates[k]
  | .translateLow => translateBytes false cfg
  | .translateHigh => translateBytes true cfg

/-- Every section, in the order of their numbers (spec/13, 13.7). -/
def Section.all : List Section := (List.range 28).filterMap sectionOf

/-- The bytes of the stored copy: every section in order, a template preceded by its length. The spec
gives the copy's layout no other form (DESIGN CHOICE, notes/assumptions/32.md). -/
def WorkingConfig.imageBytes (cfg : WorkingConfig) : List Byte :=
  Section.all.flatMap (fun sec => match sec with
    | .template k => u8 (cfg.templates[k]).length ++ cfg.templates[k]
    | _ => sec.bytes cfg)

/-- The CRC-16 that follows the copy in the non-volatile store (R192). -/
def WorkingConfig.imageCrc (cfg : WorkingConfig) : BitVec 16 := crc16 cfg.imageBytes

end Sys2Proof.Machine
end

