-- ==== Sys2Proof/Machine/Replies.lean ====
section
/-! DEFINITION. Machine/Replies.lean: the path of a request through the Host Link: the request in hand,
the BUSY refusals and overruns (R181), and the size test every fixed-size request meets first (R182). -/

namespace Sys2Proof.Machine

/-- What the owner of a request does with it: its effect and its answer (R182). -/
abbrev Served := State × Answer

/-- A request accepted with a reply body. -/
def accept (body : List Byte) (s : State) : Served := (s, .accepted body)

/-- A request refused: no state changes. -/
def refuse (code : Refuse) (detail : Nat) (s : State) : Served := (s, .refused code detail)

/-- A request of fixed body size (R182, step 2). -/
def sized (n : Nat) (body : List Byte) (f : State → Served) (s : State) : Served :=
  if body.length = n then f s else refuse .length 0 s

/-- A host frame has come whole: the receiver hunts (R180). -/
def HostLink.frameTaken (k : HostLink) : HostLink := { k with rx := { k.rx with stage := .hunt } }

/-- A good frame arriving while a request is in hand: refused BUSY while fewer than 4 BUSY refusals
wait, and otherwise an overrun (R181). -/
def turnAway (kind tag : Byte) (s : State) : State :=
  if s.busyWaiting < 4 then
    { s with
      link :=
        { s.link.frameTaken with
          replies := s.link.replies ++
            [{ kind := kind, tag := tag, answer := .refused .busy 0, inHand := false }]
          busyRefusals := sat16 s.link.busyRefusals } }
  else { s with link := { s.link.frameTaken with overruns := sat16 s.link.overruns } }

/-- The request in hand is answered: its reply joins the tail of the reply list (R181). -/
def putReply (kind tag : Byte) (r : Served) : State :=
  { r.1 with
    link :=
      { r.1.link.frameTaken with
        replies := r.1.link.replies ++
          [{ kind := kind, tag := tag, answer := r.2, inHand := true }] } }

/-- A good frame is taken as a request (R181): served by its owner when no request is in hand. -/
def takeFrame (kind tag : Byte) (serve : State → Served) (s : State) : State :=
  if s.requestInHand then turnAway kind tag s else putReply kind tag (serve s)

/-- A bay number 1 to 12 as a bay. -/
def bayOf (n : Nat) : Option Bay := if h : 1 ≤ n ∧ n ≤ 12 then some ⟨n - 1, by omega⟩ else none

/-- Byte i of a body, counted from 0. -/
def byteAt (body : List Byte) (i : Nat) : Byte := body.getD i 0

/-- A list of variable length: its count, 1 byte, then its entries (R195). -/
def counted8 {α : Type} (xs : List α) (f : α → List Byte) : List Byte := u8 xs.length ++ xs.flatMap f

/-- 16-bit counters, 2 bytes each (R195). -/
def counters (cs : List Count16) : List Byte := cs.flatMap (fun c => u16 c.toNat)

end Sys2Proof.Machine
end

