-- ==== Sys2Proof/Machine/Supervisor.lean ====
section
/-! DEFINITION. Machine/Supervisor.lean: the Line Supervisor (spec/02): the consistency check's effect
on the line state, the completion of a stop, the keep-alive and guard monitors and the lamps' cycles. -/

namespace Sys2Proof.Machine

/-! ### The consistency check (R191) -/

/-- The station points in travel order (R191, condition 1). -/
def LineSettings.points (l : LineSettings) : List Nat :=
  [l.psc, l.pmo, l.pdp, l.pem, l.pck, l.psa] ++ l.pb.toList ++ [l.pend]

/-- Whether a list of positions is strictly ascending. -/
def ascending : List Nat → Bool
  | a :: b :: rest => a < b && ascending (b :: rest)
  | _ => true

/-- A key names a grade from 1 to G and a class from 0 to N - 1 (R191, condition 4). -/
def Key.valid (k : Key) (cfg : WorkingConfig) : Bool :=
  1 ≤ k.grade && k.grade ≤ cfg.grades.count && k.cls < cfg.classes.n

/-- The six conditions of the consistency check, in order (R191). -/
def conditions (cfg : WorkingConfig) : List Bool :=
  [ ascending cfg.line.points && cfg.line.points.all (· ≤ 60000) &&
      cfg.line.pck + 150 + cfg.line.eyeCkFilter < cfg.line.psa,
    200 ≤ cfg.classes.m && cfg.classes.m + (cfg.classes.n - 1) * cfg.classes.s ≤ 2400,
    1 ≤ cfg.grades.count,
    cfg.bays.toList.all (fun r => match r with
      | .graded k => k.valid cfg
      | _ => true),
    !(cfg.templates[cfg.label.slot]).isEmpty,
    40 ≤ cfg.line.width && cfg.line.width ≤ 220 ]

/-- The result of the check: 0 on a pass, and otherwise the number of the first condition that fails
(R191). -/
def checkResult (cfg : WorkingConfig) : Nat :=
  let passed := (conditions cfg).takeWhile id
  if passed.length = 6 then 0 else passed.length + 1

/-- The check is made and its result kept; in START a pass moves the line to READY, in READY a failure
moves it to START (R191). -/
def makeCheck (s : State) : State :=
  let r := checkResult s.cfg
  let s := { s with store.lastCheck := r }
  if r = 0 then (if s.sup.line == .start then changeLine .ready s else s)
  else if s.sup.line == .ready then changeLine .start s
  else s

/-- The check after an accepted write: made in START and READY only (R191). -/
def checkAfterWrite (s : State) : State := if s.sup.line.idle then makeCheck s else s

/-! ### The completion of a stop (R31) -/

/-- The stop completes: the run-end closure, READY with the monitors inactive, and the consistency
check, with one STATE event for the state finally reached (R24, R31, R191). -/
def completeStop (s : State) : State :=
  let s := placeLine .ready (runEndClosure s)
  let r := checkResult s.cfg
  let s := { s with store.lastCheck := r }
  reportLine (if r = 0 then s else placeLine .start s)

/-- In STOPPING the stop completes when the track is empty (R31). -/
def stopTest (s : State) : State :=
  if s.sup.line == .stopping && s.track.strips.isEmpty then completeStop s else s

/-- The line enters STOPPING, and the stop completes at once when the track is empty (R30, R31). -/
def enterStopping (s : State) : State :=
  let s := placeLine .stopping s
  if s.track.strips.isEmpty then completeStop s else reportLine s

/-! ### The keep-alive monitor (R33 to R36) -/

/-- A LONG window starts, when P is not OFF (R33). -/
def startLong (s : State) : State :=
  if s.cfg.supervision.period == .off then { s with sup.window := .none }
  else { s with sup.window := .long s.now }

/-- A NORMAL window starts, taking its period from P (R33). -/
def startNormal (s : State) : State :=
  match s.cfg.supervision.period.millis with
  | some p => { s with sup.window := .normal s.now p }
  | none => { s with sup.window := .none }

/-- A keep-alive fault, EARLY or LATE, in the order R36 gives. -/
def keepAliveFault (notice : LineState → Notice) (s : State) : State :=
  let s := give (notice s.sup.line) (latchAlarm .keepAlive s)
  let s := if s.sup.line == .stopping then { s with sup.stopPending := true } else s
  changeLine .failsafe s

/-- The verdict on a KEEPALIVE (R34). -/
inductive KeepAliveVerdict where
  | ignored | valid | early
  deriving DecidableEq, Repr

/-- A KEEPALIVE is judged against the keep-alive window; the boundary between the closed and the open
part belongs to the open part (R34). -/
def judgeKeepAlive (s : State) : KeepAliveVerdict :=
  match s.sup.window with
  | .none => .ignored
  | .long _ => .valid
  | .normal start p => if s.now < start + closedPart p then .early else .valid

/-- The effect of a KEEPALIVE (R34). -/
def keepAliveEffect (s : State) : State :=
  match judgeKeepAlive s with
  | .ignored => s
  | .valid => startNormal s
  | .early => keepAliveFault .early s

/-- A window that reaches its end with no VALID keep-alive expires (R35). Before its end this event
does not occur (notes/assumptions/3.md). -/
def expireWindow (s : State) : State :=
  match s.sup.window.expiry with
  | some t => if t ≤ s.now then keepAliveFault .late s else s
  | none => s

/-- A write of the keep-alive period (R33). -/
def changePeriod (old new : Period) (s : State) : State :=
  if new == .off then { s with sup.window := .none }
  else if old == .off && s.sup.line.keepAliveActive then startLong s
  else s

/-! ### The guard monitor (R39) -/

/-- The guard window starts afresh, when guard enable is set. -/
def startGuard (s : State) : State :=
  if s.cfg.supervision.guardEnable then { s with sup.guard := .watching (s.now + ms 250) } else s

/-- GUARD changes level. A high level after a low one begins a high period (R39). -/
def guardInput (high : Bool) (s : State) : State :=
  if s.sup.guardHigh == high then s
  else
    { s with
      sup.guardHigh := high
      sup.guardHighSince := if high then some s.now else none }

/-- An accepted rising edge of GUARD (R39). -/
def guardEdge (s : State) : State :=
  match s.sup.guard with
  | .inactive => s
  | .watching _ => { s with sup.guard := .watching (s.now + ms 250) }
  | .lapsed =>
    give .guardRestored (removeHold .guard { s with sup.guard := .watching (s.now + ms 250) })

/-- GUARD has stayed high for 1 ms: the edge is accepted, once (R39). Before that this event does not
occur (notes/assumptions/3.md). -/
def acceptGuardEdge (s : State) : State :=
  match s.sup.guardHighSince with
  | some t =>
    if s.sup.guardHigh && t + ms 1 ≤ s.now then
      guardEdge { s with sup.guardHighSince := none }
    else s
  | none => s

/-- The guard window expires while WATCHING (R39). -/
def expireGuard (s : State) : State :=
  match s.sup.guard with
  | .watching t =>
    if t ≤ s.now then
      give .guardExpired (latchAlarm .guard (addHold .guard { s with sup.guard := .lapsed }))
    else s
  | _ => s

/-- A write of guard enable (R39). -/
def changeGuard (old new : Bool) (s : State) : State :=
  if new && !old && s.sup.line.guardActive then startGuard s
  else if !new then removeHold .guard { s with sup.guard := .inactive }
  else s

/-! ### Lamps (R42, R43) -/

/-- LAMP-A's phase ends: 250 ms on, 250 ms off, while an attention condition holds (R43). -/
def blinkLampA (s : State) : State :=
  match s.sup.lampA with
  | some p =>
    if p.ends ≤ s.now then { s with sup.lampA := some { lit := !p.lit, ends := s.now + ms 250 } }
    else s
  | none => s

/-- LAMP-G's phase ends: 1.25 ms on in each 5 ms, in HOLD and STOPPING (R42). -/
def dimLampG (s : State) : State :=
  match s.sup.lampG with
  | some p =>
    if p.ends ≤ s.now then
      { s with sup.lampG := some { lit := !p.lit, ends := s.now + (if p.lit then 15 else 5) } }
    else s
  | none => s

def execKeepaliveWindowExpiry (s : State) : Host.Outcome State Fault Refusal := live s expireWindow

/-- The pin's level is the outside world's, so it changes without supply too. -/
def execGuardInputChange (high : Bool) (s : State) : Host.Outcome State Fault Refusal :=
  if s.powered then live s (guardInput high)
  else .next { s with sup.guardHigh := high, sup.guardHighSince := none }

def execGuardEdgeAccepted (s : State) : Host.Outcome State Fault Refusal := live s acceptGuardEdge
def execGuardWindowExpiry (s : State) : Host.Outcome State Fault Refusal := live s expireGuard
def execLampABlink (s : State) : Host.Outcome State Fault Refusal := live s blinkLampA
def execLampGDim (s : State) : Host.Outcome State Fault Refusal := live s dimLampG

end Sys2Proof.Machine
end

