-- ==== Sys2Proof/Machine/Heads.lean ====
section
/-! DEFINITION. Machine/Heads.lean: the Head Monitor (spec/06): the converter and its arbiter, slices,
verdicts, head faults and suspect marking, temperature, and the off-line head check. -/

namespace Sys2Proof.Machine

/-! ### Heads -/

/-- The settings of a head as they stand (R93). -/
def State.headCfg (s : State) (n : Head) : HeadSettings := s.cfg.heads.head[n]

/-- Whether a head is in service (R94). -/
def State.enabled (s : State) (n : Head) : Bool := (s.headCfg n).enabled

/-- A moulder head H1 to H4 as a head (R93). -/
def moulderHead (k : Fin 4) : Head := ⟨k.val, by omega⟩

/-- The moulder heads in the cycle H1, H2, H3, H4, H1 from a pointer (R98). -/
def moulderCycle (p : Fin 4) : List (Fin 4) := [p, p + 1, p + 2, p + 3]

/-- The enabled moulder heads in the cycle from the rotation pointer; the first is the head in turn
(R98). -/
def State.moulderTurn (s : State) : List (Fin 4) :=
  (moulderCycle s.heads.rotation).filter (fun k => s.enabled (moulderHead k))

/-- H5 and H6, the end heads (R93). -/
def endHeads : List Head := [4, 5]

/-- Whether a head is a moulder head (R93). -/
def isMoulder (n : Head) : Bool := n.val < 4

/-- The station point of a head: Pmo or Pem (R93). -/
def headPoint (l : LineSettings) (n : Head) : Nat := if isMoulder n then l.pmo else l.pem

/-- The first enabled head at or after a place in head order H1 to H6 (R110, R111). -/
def State.enabledFrom (s : State) (i : Nat) : Option Head :=
  allHeads.find? (fun n => i ≤ n.val && s.enabled n)

/-! ### The off-line check's course (R110 to R112) -/

/-- The end of a check: DONE, CHECK removed, and the DONE event with the six results (R112). The check
cursor then names no head: DESIGN CHOICE (notes/assumptions/45.md). -/
def endCheck (s : State) : State :=
  let s := removeHold .check { s with heads.check := .done, heads.cursor := none }
  give (.checkDone (s.heads.records.map (·.checkResult))) s

/-- The cursor moves to the next enabled head at or after a place, whose CHECK request joins the list;
with none left the check ends (R111, R112). -/
def moveCursor (i : Nat) (s : State) : State :=
  match s.enabledFrom i with
  | some n => { s with heads.cursor := some n, heads.requests := s.heads.requests ++ [.check n] }
  | none => endCheck s

/-! ### The converter and its arbiter (R95 to R97) -/

/-- The head a request names (R95). -/
def ConvRequest.head : ConvRequest → Option Head
  | .endMatch _ n | .moulder _ n | .check n => some n
  | .temperature => none

/-- The strip a slice request names (R95). -/
def ConvRequest.strip : ConvRequest → Option StripNo
  | .endMatch n _ | .moulder n _ => some n
  | _ => none

/-- The request the arbiter reaches first in its order: the oldest END-MATCH, the oldest MOULDER, the
CHECK, the TEMPERATURE; a stale temperature request goes before all (R96). -/
def arbiterChoice (stale : Bool) (rs : List ConvRequest) : Option ConvRequest :=
  if stale && rs.contains .temperature then some .temperature
  else
    (rs.find? (fun r => match r with
      | .endMatch _ _ => true
      | _ => false)) <|>
    (rs.find? (fun r => match r with
      | .moulder _ _ => true
      | _ => false)) <|>
    (rs.find? (fun r => match r with
      | .check _ => true
      | _ => false)) <|>
    rs.find? (fun r => r == .temperature)

/-- A conversion begins for a request, with the settings as they stand and the next serial (R94, R96). -/
def beginConversion (r : ConvRequest) (s : State) : State :=
  { s with
    heads.conversion := some
      { serial := s.heads.nextConversion, request := r, settings := s.cfg.heads }
    heads.nextConversion := s.heads.nextConversion + 1 }

/-- The arbiter takes one request. A request whose head is out of service is withdrawn, and the arbiter
goes on; a withdrawn CHECK request moves the check on (R96, R97, R111). Fuel bounds the number of
requests withdrawn. -/
def takeRequest : Nat → State → State
  | 0, s => s
  | fuel + 1, s =>
    match arbiterChoice s.heads.stale s.heads.requests with
    | none => s
    | some r =>
      let ahead := s.heads.stale && r == .temperature && 1 < s.heads.requests.length
      let s := { s with heads.requests := s.heads.requests.erase r }
      match r.head with
      | none =>
        beginConversion r
          (if ahead then { s with heads.takeovers := sat16 s.heads.takeovers } else s)
      | some n =>
        if s.enabled n then beginConversion r s
        else
          let s := { s with heads.withdrawn := sat16 s.heads.withdrawn }
          match r with
          | .check n => takeRequest fuel (moveCursor (n.val + 1) s)
          | _ => takeRequest fuel s

/-- The arbiter looks at the list while the converter is IDLE (R95, R96). Every request can be withdrawn
once, and a CHECK request is placed at most once for each head. -/
def converterNext (s : State) : State :=
  match s.heads.conversion with
  | none => takeRequest (s.heads.requests.length + 7) s
  | some _ => s

/-- Requests join the list in order, and an idle converter takes one (R96). -/
def placeRequests (rs : List ConvRequest) (s : State) : State :=
  converterNext { s with heads.requests := s.heads.requests ++ rs }

/-- The requests that name a strip are withdrawn when its record leaves the track (R97). -/
def withdrawRequests (n : StripNo) (s : State) : State :=
  let gone := s.heads.requests.filter (fun r => r.strip == some n)
  { s with
    heads.requests := s.heads.requests.filter (fun r => r.strip != some n)
    heads.withdrawn := sat16By s.heads.withdrawn gone.length }

/-! ### Suspect strips (R103) -/

/-- Counting forward from a to b through the strip numbers 1 to 65535 (R103). -/
def stripsForward (a b : StripNo) : Nat := (b.toNat + 65535 - a.toNat) % 65535

/-- Whether a number is reached after `good` and not after `latch` (R103). -/
def inSuspectRange (good latch n : StripNo) : Bool :=
  1 ≤ stripsForward good n && stripsForward good n ≤ stripsForward good latch

/-- Suspects marked, or escaped, rises by 1 in the fault detail of a head (R103). -/
def countSuspect (n : Head) (escaped : Bool) (s : State) : State :=
  modifyHead n (fun h => { h with
    detail := h.detail.map (fun d =>
      if escaped then { d with escaped := sat16 d.escaped }
      else { d with suspects := sat16 d.suspects }) }) s

/-- R103's table for one record in reach of head n. `report`: an escape gives an ESCAPED event. -/
def markSuspect (n : Head) (report : Bool) (r : Strip) (s : State) : State :=
  if r.route.isSome then
    let s := countSuspect n true s
    if report && !(s.headCfg n).masked then give (.headEscaped n r.number) s else s
  else if r.suspect.isNone then
    countSuspect n false (modifySerial r.serial (fun q => { q with suspect := some n }) s)
  else s

/-- The records of the suspect range at the latch of a fault on head n by record `latch` (R103). With
no last good strip, the range is the latching record and every record ahead of it. -/
def suspectRange (n : Head) (good : Option StripNo) (latch : Strip) (s : State) : List Strip :=
  let inRange : List Strip :=
    match good with
    | some g => s.track.strips.filter (fun r => inSuspectRange g latch.number r.number)
    | none =>
      s.track.strips.takeWhile (fun r => r.serial != latch.serial) ++
        s.track.strips.filter (fun r => r.serial == latch.serial)
  inRange.filter (fun r =>
    !r.isPhantom && decide ((headPoint s.cfg.line n : Int) ≤ r.leading s.track.travel))

/-- While a head holds a latched fault, every record whose leading edge passes its sample point is
marked too (R103). Of two latched heads that share the sample point the lower number marks first, and
its mark stays (R105; DESIGN CHOICE, notes/assumptions/44.md). -/
def markAtSample (heads : List Head) (r : Strip) (s : State) : State :=
  if r.number = 0 then s
  else heads.foldl (fun s n =>
    if s.heads.records[n].latched.isSome then
      match s.stripSerial r.serial with
      | some r => markSuspect n true r s
      | none => s
    else s) s

/-! ### Judging a slice result (R100 to R104) -/

/-- The reporting of a latch, by the head's report mask as it stands (R104). -/
def reportFault (n : Head) (k : HeadFault) (s : State) : State :=
  if (s.headCfg n).masked then s
  else
    let s := latchAlarm (.head n) s
    let s := match s.heads.records[n].detail with
      | some d => give (.headFault n k d) s
      | none => s
    if (s.headCfg n).policy == .stop then addHold .head s else s

/-- The latch of a fault on head n by a record (R102), the suspect marking (R103) and the reporting
(R104). -/
def latchFault (n : Head) (k : HeadFault) (r : Strip) (s : State) : State :=
  let good := s.heads.records[n].lastGood
  let s := modifyHead n (fun h => { h with
    latched := some k
    detail := some
      { stripAtLatch := r.number, lastGoodAtLatch := good, suspects := 0, escaped := 0 } }) s
  let s := (suspectRange n good r s).foldl (fun s q => markSuspect n false q s) s
  reportFault n k s

/-- The verdict of R101's table, first row that applies; none for NEUTRAL. -/
inductive SliceVerdict where
  | good | neutral
  | bad (kind : HeadFault)
  deriving DecidableEq, Repr

/-- R101's table: a result, the head's settings and the minimum speed it began with, and the feed speed
at the completion. -/
def judgeLoad (h : HeadSettings) (minSpeed speed load : Nat) : SliceVerdict :=
  if h.overload < load then .bad .overload
  else if load < h.cutAbsent then (if minSpeed ≤ speed then .bad .cutAbsent else .neutral)
  else .good

/-- The consecutive-bad count after a BAD verdict: it rises by 1, up to the confirm count (R101). -/
def badAfter (count confirm : Nat) : Nat := if count < confirm then count + 1 else count

/-- A BAD verdict on head n (R101), and the fault test (R102). -/
def badVerdict (n : Head) (k : HeadFault) (h : HeadSettings) (r : Strip) (s : State) : State :=
  let s := modifyHead n (fun q => { q with badCount := badAfter q.badCount h.confirm, verdict := .bad }) s
  if h.confirm ≤ s.heads.records[n].badCount && s.heads.records[n].latched.isNone then
    latchFault n k r s
  else s

/-- A counted result is judged for the record's strip number (R101). -/
def judgeResult (n : Head) (cv : Conversion) (load : Nat) (r : Strip) (s : State) : State :=
  let h := cv.settings.head[n]
  if h.diagnostics then
    match judgeLoad h cv.settings.minSpeed s.track.speed load with
    | .good => modifyHead n (fun q => { q with
        badCount := 0, verdict := .good, lastGood := some r.number }) s
    | .neutral => s
    | .bad k => badVerdict n k h r s
  else modifyHead n (fun q => { q with badCount := 0, lastGood := some r.number }) s

/-- A load is set as a head's last load and raises its peak when it exceeds it (R100, R111). -/
def noteLoad (n : Head) (load : Nat) (s : State) : State :=
  modifyHead n (fun q => { q with lastLoad := some load, peak := max q.peak load }) s

/-- The rotation pointer moves past a moulder head that is the head in turn (R100). -/
def moveRotation (n : Head) (s : State) : State :=
  match s.moulderTurn with
  | k :: _ => if moulderHead k = n then { s with heads.rotation := k + 1 } else s
  | [] => s

/-- A counted result (R100). -/
def countResult (n : Head) (cv : Conversion) (load : Nat) (r : Strip) (s : State) : State :=
  moveRotation n (judgeResult n cv load r (noteLoad n load s))

/-- The trailing-edge event that ends the still-under-the-head period (R100). -/
def underHeadEnd (n : Head) : PassEvent := if isMoulder n then .pmoTrail else .pemTrail

/-- The completion of a slice conversion: discarded when the record has left the track, late when its
trailing edge has passed the head point, and counted otherwise (R97, R100). -/
def sliceResult (strip : StripNo) (n : Head) (cv : Conversion) (load : Nat) (s : State) : State :=
  match s.stripNo strip with
  | none => s
  | some r =>
    if r.raised.contains (underHeadEnd n) then { s with heads.late := sat16 s.heads.late }
    else countResult n cv load r s

/-! ### Temperature (R107 to R109) -/

/-- Whether a reading ends a condition: below the end level, or 0 when the end level is 0 or less
(R107). -/
def endsCondition (level hysteresis reading : Nat) : Bool :=
  if level ≤ hysteresis then reading == 0 else reading < level - hysteresis

/-- The pre-warning condition (R108). -/
def judgePreWarning (reading : Nat) (s : State) : State :=
  let h := s.cfg.heads
  if s.heads.preWarning then
    if endsCondition h.preWarning h.hysteresis reading then
      give (.warningCleared reading) { s with heads.preWarning := false }
    else s
  else if h.preWarning ≤ reading then give (.warning reading) { s with heads.preWarning := true }
  else s

/-- The shutdown condition (R109). -/
def judgeShutdown (reading : Nat) (s : State) : State :=
  let h := s.cfg.heads
  if s.heads.shutdown then
    if endsCondition h.shutdown h.hysteresis reading then
      give (.shutdownRestored reading) (removeHold .temp { s with heads.shutdown := false })
    else s
  else if h.shutdown ≤ reading then
    give (.shutdown reading) (latchAlarm .temp (addHold .temp { s with heads.shutdown := true }))
  else s

/-- A TEMPERATURE result: the 10-bit result divided by 4; staleness ends (R96, R107). -/
def temperatureResult (result : Nat) (s : State) : State :=
  let reading := result / 4
  judgeShutdown reading (judgePreWarning reading
    { s with heads.reading := some reading, heads.stale := false, heads.tempSince := s.now })

/-! ### The off-line check's results (R111) -/

/-- The check result of an idle load (R111). -/
def judgeIdle (h : HeadSettings) (load : Nat) : CheckResult :=
  if load < h.idleMin then .notRunning else if h.idleMax < load then .idleDrag else .ok

/-- The completion of a CHECK conversion (R111). -/
def checkStep (n : Head) (cv : Conversion) (load : Nat) (s : State) : State :=
  let res := judgeIdle cv.settings.head[n] load
  let s := modifyHead n (fun q => { q with checkResult := some res }) (noteLoad n load s)
  let s :=
    if res = .ok then modifyHead n (fun q => { q with verdict := .good, badCount := 0 }) s else s
  moveCursor (n.val + 1) s

/-! ### The completion of a conversion (R95) -/

/-- A result is handed to the owner of its request's kind (R95). -/
def handResult (cv : Conversion) (result : Nat) (s : State) : State :=
  match cv.request with
  | .endMatch strip n => sliceResult strip n cv result s
  | .moulder strip n => sliceResult strip n cv result s
  | .check n => checkStep n cv result s
  | .temperature => temperatureResult result s

/-- The conversion in flight completes: counted, handed on, the converter IDLE, and the arbiter takes
the next request (R95). -/
def endConversion (cv : Conversion) (result : BitVec 10) (s : State) : State :=
  let s := handResult cv result.toNat { s with heads.completed := sat16 s.heads.completed }
  converterNext { s with heads.conversion := none }

/-- The completion of a conversion. That of one no longer in flight, which a reset abandoned, is
discarded (R114). -/
def completeConversion (result : ConversionResult) (s : State) : State :=
  match s.heads.conversion with
  | none => s
  | some cv => if cv.serial = result.conversion then endConversion cv result.value s else s

/-! ### The temperature timer and staleness (R96) -/

/-- A TEMPERATURE request is placed unless one is in the list (R96). -/
def placeTemperature (s : State) : State :=
  if s.heads.requests.contains .temperature then s else placeRequests [.temperature] s

/-- Every 500 ms from the end of reset (R96). Before the moment this event does not occur
(notes/assumptions/3.md). -/
def temperatureTick (s : State) : State :=
  if s.heads.nextTemp ≤ s.now then placeTemperature { s with heads.nextTemp := s.heads.nextTemp + ms 500 }
  else s

/-- Temperature is stale when no TEMPERATURE conversion has completed for 2 s (R96). -/
def temperatureStale (s : State) : State :=
  if s.heads.tempSince + ms 2000 ≤ s.now then { s with heads.stale := true } else s

/-! ### Slices (R98, R99) -/

/-- A slice that is not placed because the strip is already clear of the head (R98, R99). -/
def skipSlice (s : State) : State := { s with heads.skipped := sat16 s.heads.skipped }

/-- Whether a record's trailing edge has already passed a head point as its leading edge reaches the settle
point: its passing there has been taken, or falls due at the same change of travel with the edge beyond the
point (R98, R99). An edge then just at the point has not passed it (notes/assumptions/47.md). -/
def passedHead (trail : PassEvent) (point : Nat) (r : Strip) (s : State) : Bool :=
  r.raised.contains trail || r.clearOf point s.track.travel

/-- The moulder slice of a record at Pmo + settle (R98). -/
def moulderSlice (r : Strip) (s : State) : State :=
  if r.isPhantom then s
  else if passedHead .pmoTrail s.cfg.line.pmo r s then skipSlice s
  else placeRequests ((s.moulderTurn.take 2).map (fun k => .moulder r.number (moulderHead k))) s

/-- The end-match slice of a record at Pem + settle (R99). -/
def endMatchSlice (r : Strip) (s : State) : State :=
  if r.isPhantom then s
  else if passedHead .pemTrail s.cfg.line.pem r s then skipSlice s
  else placeRequests ((endHeads.filter s.enabled).map (fun n => .endMatch r.number n)) s

def execConversionCompletion (result : ConversionResult) (s : State) :
    Host.Outcome State Fault Refusal :=
  live s (completeConversion result)
def execTemperatureTimer (s : State) : Host.Outcome State Fault Refusal := live s temperatureTick
def execTemperatureStale (s : State) : Host.Outcome State Fault Refusal := live s temperatureStale

end Sys2Proof.Machine
end

