-- ==== Sys2Proof/Machine/Grading.lean ====
section
/-! DEFINITION. Machine/Grading.lean: the Grading Engine (spec/04): the evaluation stage by stage, the
evaluation queue, and the decision point. -/

namespace Sys2Proof.Machine

/-! ### The evaluation (R67 to R75) -/

/-- A defect's span along a strip of length L, as [p, q), with its kind and severity (R67). -/
structure Span where
  p : Nat
  q : Nat
  kind : Nat
  severity : Nat
  deriving DecidableEq, Repr

/-- The spans of a defect list; a defect at or beyond the strip's length is ignored (R67). -/
def spans (len : Nat) (ds : List Defect) : List Span :=
  (ds.filter (fun d => d.position < len)).map (fun d =>
    { p := d.position, q := min (d.position + d.extent) len, kind := d.kind, severity := d.severity })

/-- The usable span U = L - H0 - T0 - Tg, in signed arithmetic (R68). -/
def usableSpan (cut : CuttingSettings) (len : Nat) : Int := (len : Int) - cut.h0 - cut.t0 - cut.tg

/-- The top class for a usable span of at least M (R69). -/
def topClass (cl : ClassSettings) (u : Int) : Nat := min ((u.toNat - cl.m) / cl.s) (cl.n - 1)

/-- A candidate window: its class, head offset and length (R70). -/
structure CutWindow where
  cls : Nat
  offset : Nat
  width : Nat
  deriving DecidableEq, Repr

/-- The head offsets of a class whose windows have length w (R70, step 1). -/
def headOffsets (cut : CuttingSettings) (len w : Nat) : List Nat :=
  ((List.range 32).map (fun j => cut.h0 + j * cut.q)).takeWhile (fun o => o + w + cut.t0 ≤ len)

/-- The windows of a class: the head offsets ascending, then the tail-aligned offset unless it equals
one of them (R70). -/
def classWindows (cl : ClassSettings) (cut : CuttingSettings) (len c : Nat) : List CutWindow :=
  let w := cl.nominal c + cut.tg
  let heads := headOffsets cut len w
  let tail := len - cut.t0 - w
  let offsets := if heads.contains tail then heads else heads ++ [tail]
  offsets.map (fun o => { cls := c, offset := o, width := w })

/-- Every window, classes descending from the top class (R70). -/
def windows (cl : ClassSettings) (cut : CuttingSettings) (len top : Nat) : List CutWindow :=
  (List.range (top + 1)).reverse.flatMap (classWindows cl cut len)

/-- Whether a defect is counted in a window: span and window share at least one millimetre (R71). -/
def counted (w : CutWindow) (d : Span) : Bool := d.p < w.offset + w.width && w.offset < d.q

/-- Whether a grade's limit for one kind admits the counted defects of that kind (R72). -/
def kindAdmits (lim : Limit) (ds : List Span) : Bool :=
  ds.all (fun d => d.severity ≤ lim.sevMax) && (lim.cntMax == 15 || ds.length ≤ lim.cntMax)

/-- Whether a grade admits a window, for every one of the six kinds (R72). -/
def gradeAdmits (g : Grade) (ds : List Span) : Bool :=
  (List.finRange 6).all (fun k => kindAdmits g.limits[k] (ds.filter (fun d => d.kind == k.val + 1)))

/-- A window's grade: the smallest grade from 1 to G that admits it, if any (R72). -/
def windowGrade (gs : GradeSettings) (ds : List Span) : Option Nat :=
  ((List.finRange 8).find? (fun g => g.val < gs.count && gradeAdmits gs.grades[g] ds)).map (·.val + 1)

/-- The price of a grade and class (R61). -/
def priceOf (prices : Vector (Vector Nat 16) 8) (grade cls : Nat) : Nat :=
  match prices.toList[grade - 1]? with
  | some row => row.toList.getD cls 0
  | none => 0

/-- A window with its grade and merit (R72, R73). -/
structure Valued where
  window : CutWindow
  grade : Option Nat
  merit : Nat
  deriving DecidableEq, Repr

/-- A window is graded by the defects counted in it and valued by the price table (R71 to R73). -/
def valueWindow (i : EvalInputs) (ds : List Span) (w : CutWindow) : Valued :=
  let grade := windowGrade i.grades (ds.filter (counted w))
  { window := w
    grade := grade
    merit := match grade with
      | some g => i.classes.nominal w.cls * priceOf i.prices g w.cls
      | none => 0 }

/-- One window taken by the choice: it becomes the best when its merit exceeds the best's (R74). -/
def better (best : Option Valued) (v : Valued) : Option Valued :=
  match best with
  | none => some v
  | some b => if b.merit < v.merit then some v else best

/-- The best window becomes the evaluation's result (R75). -/
def resultOf (best : Option Valued) : CutPlan :=
  match best with
  | some v =>
    match v.grade with
    | some g =>
      if 0 < v.merit then .graded v.window.cls g v.window.offset v.window.width v.merit
      else .pass .noValue
    | none => .pass .noValue
  | none => .pass .noValue

/-- The whole evaluation: its windows examined and its result (R67 to R75). -/
def evaluate (i : EvalInputs) : Nat × CutPlan :=
  let u := usableSpan i.cutting i.length
  if u < i.classes.m then (0, .pass .short)
  else
    let ws := windows i.classes i.cutting i.length (topClass i.classes u)
    let ds := spans i.length i.defects
    (ws.length, resultOf ((ws.map (valueWindow i ds)).foldl better none))

/-! ### The queue and the evaluation in flight (R64 to R66) -/

/-- The inputs an evaluation takes at its beginning (R63, R65), under the serial given it. -/
def evalInputs (serial : Nat) (cfg : WorkingConfig) (r : Strip) : EvalInputs :=
  { serial := serial, strip := r.number, length := r.infeed.getD 0, defects := r.defects.getD []
    classes := cfg.classes, grades := cfg.grades, prices := cfg.prices, cutting := cfg.cutting }

/-- The idle engine begins the evaluation of the strip at the head of the queue (R65). Every entry names a
record in the track (R64): `withdrawEntry` takes that of a record which leaves. -/
def engineBegin (s : State) : State :=
  match s.grading.inFlight, s.grading.queue with
  | none, n :: rest =>
    let s := { s with grading.queue := rest }
    match s.stripNo n with
    | some r =>
      { modifyNumber n (fun q => { q with eval := .evaluating }) s with
        grading.inFlight := some (evalInputs s.grading.nextEvaluation s.cfg r)
        grading.nextEvaluation := s.grading.nextEvaluation + 1 }
    | none => s
  | _, _ => s

/-- The entry of a record that leaves the track before Pdp leaves the queue, counted as withdrawn; an
evaluation in flight runs on to its completion (R64, R66). DESIGN CHOICE: notes/assumptions/49.md. -/
def withdrawEntry (n : StripNo) (s : State) : State :=
  if s.grading.queue.contains n then
    { s with
      grading.queue := s.grading.queue.filter (fun m => m != n)
      grading.withdrawn := sat16 s.grading.withdrawn }
  else s

/-- A strip is offered to the tail of the evaluation queue, which holds at most 8 entries (R55, R64). -/
def offer (n : StripNo) (s : State) : State :=
  if s.grading.queue.length < 8 then
    engineBegin
      { modifyNumber n (fun q => { q with eval := .queued }) s with
        grading.queue := s.grading.queue ++ [n] }
  else { s with grading.refused := sat16 s.grading.refused }

/-- The evaluation in flight runs to its result, held with the evaluation state when the strip is still
EVALUATING (R66). -/
def finishEvaluation (i : EvalInputs) (s : State) : State :=
  let (n, result) := evaluate i
  let s := modifyNumber i.strip (fun q =>
    if q.eval == .evaluating then { q with eval := .done, result := some result } else q) s
  engineBegin
    { s with
      grading.completed := sat16 s.grading.completed
      grading.last := some { strip := i.strip, windows := n, result := result }
      grading.inFlight := none }

/-- The completion of the evaluation with a serial: taken when it is the one in flight, and discarded
when it has been abandoned, at Pdp or by a reset (R66, R77, R81). -/
def completeEvaluation (evaluation : Nat) (s : State) : State :=
  match s.grading.inFlight with
  | some i => if i.serial = evaluation then finishEvaluation i s else s
  | none => s

/-! ### The decision point (R76 to R79) -/

/-- The default plan, computed at the passing from the infeed length and the tables in force (R78). -/
def defaultPlan (cfg : WorkingConfig) (len : Nat) (reason : Reason) : CutPlan :=
  let u := usableSpan cfg.cutting len
  if u < cfg.classes.m then .pass .short
  else
    let c := topClass cfg.classes u
    .default reason c cfg.cutting.h0 (cfg.classes.nominal c + cfg.cutting.tg)

/-- A plan is written into a record (R76). -/
def writePlan (r : Strip) (p : CutPlan) (ev : EvalState) (s : State) : State :=
  modifySerial r.serial (fun q => { q with plan := some p, eval := ev }) s

/-- A late decision raises the statistic and gives a LATE event, unless the default gave way to PASS
SHORT (R79). -/
def countLate (r : Strip) (p : CutPlan) (c : LateCase) (s : State) : State :=
  if p = .pass .short then s
  else
    let s := { s with track.stats.lateDecisions := s.track.stats.lateDecisions + 1 }
    give (.lateDecision r.number c) s

/-- A late default plan is written (R76, R78, R79). -/
def lateDefault (r : Strip) (len : Nat) (c : LateCase) (ev : EvalState) (s : State) : State :=
  let p := defaultPlan s.cfg len .late
  countLate r p c (writePlan r p ev s)

/-- The cut plan is written at Pdp by the first row of R76's table that applies. -/
def writeDecision (r : Strip) (s : State) : State :=
  if r.joined then writePlan r (.pass .joined) r.eval s
  else
    match r.infeed with
    | none => writePlan r (.pass .noValue) r.eval s
    | some len =>
      match r.eval, r.result with
      | .done, some p => writePlan r p .done s
      | .evaluating, _ =>
        let s := lateDefault r len .inFlight .abandoned s
        { s with
          grading.inFlight := none
          grading.abandoned := sat16 s.grading.abandoned }
      | .queued, _ =>
        let s := lateDefault r len .queued .abandoned s
        { s with
          grading.queue := s.grading.queue.filter (fun n => n != r.number)
          grading.withdrawn := sat16 s.grading.withdrawn }
      | ev, _ =>
        match r.scan with
        | .truncated | .incomplete => writePlan r (defaultPlan s.cfg len .unrated) ev s
        | .complete => lateDefault r len .queueFull .notQueued s
        | _ => writePlan r (defaultPlan s.cfg len .noscan) ev s

/-- The decision at the leading-edge passing event at Pdp; the engine then begins the head entry when it
is idle (R76). -/
def decidePlan (r : Strip) (s : State) : State := engineBegin (writeDecision r s)

def execEvaluationCompletion (evaluation : Nat) (s : State) : Host.Outcome State Fault Refusal :=
  live s (completeEvaluation evaluation)

end Sys2Proof.Machine
end

