-- ==== Sys2Proof/Machine/Scanner.lean ====
section
/-! DEFINITION. Machine/Scanner.lean: the Scanner Port (spec/03): the scanner's messages, the reception
and the hand-over to grading. -/

namespace Sys2Proof.Machine

/-- A message of the scanner has come whole: no scanner-line frame is partly received. -/
def clearScannerRx (s : State) : State := { s with scanner.rx := { s.scanner.rx with stage := .hunt } }

/-- An event given to the scanner notice source also raises the statistic scanner faults, whether or
not the notice is masked (R56). -/
def scannerEvent (n : Notice) (s : State) : State :=
  give n { s with track.stats.scannerFaults := s.track.stats.scannerFaults + 1 }

/-- The reception becomes IDLE; its received count and damaged mark stay as they stand. -/
def receptionIdle (s : State) : State :=
  { s with scanner.reception := .idle, scanner.receiving := none }

/-- The reception becomes DISCARDING (R49). -/
def receptionDiscard (s : State) : State :=
  { s with scanner.reception := .discarding, scanner.receiving := none }

/-- The hand-over of a strip whose scan has ended, by its record (R55). -/
def handOver (n : StripNo) (s : State) : State :=
  match s.stripNo n with
  | none => s
  | some r =>
    if r.joined then s
    else
      match r.scan with
      | .truncated | .incomplete => modifyNumber n (fun q => { q with eval := .done }) s
      | .complete => if r.infeed.isSome then offer n s else s
      | _ => s

/-- An offer that waited for the end of admission is made, when the infeed length is then set and the
record holds no cut plan (R55). -/
def offerWaiting (id : Nat) (s : State) : State :=
  match s.stripSerial id with
  | some r =>
    if r.scan == .complete && !r.joined && r.infeed.isSome && r.plan.isNone && r.eval == .notQueued then
      offer r.number s
    else s
  | none => s

/-- The scan of a strip ends INCOMPLETE, and the hand-over follows (R51, R54). -/
def endIncomplete (n : StripNo) (s : State) : State :=
  let s := modifyNumber n (fun q => { q with scan := .incomplete }) s
  handOver n (receptionIdle { s with scanner.incomplete := sat16 s.scanner.incomplete })

/-- A sequence error (R51, R52, R54). -/
def sequenceError (n : Option StripNo) (s : State) : State :=
  scannerEvent (.sequence n) { s with scanner.sequence := sat16 s.scanner.sequence }

/-- The receiving strip's record holds a cut plan: it has passed Pdp (R53). -/
def State.passedPdp (s : State) (n : StripNo) : Bool :=
  match s.stripNo n with
  | some r => r.plan.isSome
  | none => false

/-- A report is cut off as too late: MISSED if it is still RECEIVING, with its counter and event (R53). -/
def cutOff (n : StripNo) (s : State) : State :=
  let s := modifyNumber n (fun q =>
    if q.scan == .receiving then { q with scan := .missed } else q) s
  scannerEvent (.tooLate n) { s with scanner.tooLate := sat16 s.scanner.tooLate }

/-! ### START (R50, R51) -/

/-- A START first ends the report in hand (R51). -/
def endReport (s : State) : State :=
  match s.scanner.reception, s.scanner.receiving with
  | .receiving, some n =>
    if s.passedPdp n then receptionIdle (cutOff n s)
    else sequenceError (some n) (endIncomplete n s)
  | _, _ => receptionIdle s

/-- The reception opens for a strip: its defect list is present and empty (R49, R50). -/
def openScan (n : StripNo) (s : State) : State :=
  let s := modifyNumber n (fun q => { q with scan := .receiving, defects := some [] }) s
  { s with
    scanner.reception := .receiving
    scanner.receiving := some n
    scanner.received := 0
    scanner.damaged := false }

/-- An entry passed over by a younger START: its record is MISSED unless it already holds a cut plan
(R50). -/
def passOver (s : State) (n : StripNo) : State :=
  modifyNumber n (fun q => if q.plan.isSome then q else { q with scan := .missed }) s

/-- The entries ahead of the named one are removed as missed, with one MISSED event (R50). -/
def missAhead (ahead : List StripNo) (s : State) : State :=
  match ahead with
  | [] => s
  | oldest :: _ =>
    let s := ahead.foldl passOver s
    scannerEvent (.missed ahead.length oldest)
      { s with scanner.missed := sat16By s.scanner.missed ahead.length }

/-- A START arriving in IDLE, judged against the announce list (R50). -/
def judgeStart (n : StripNo) (s : State) : State :=
  if s.scanner.announces.contains n then
    let ahead := s.scanner.announces.takeWhile (fun m => m != n)
    let rest := (s.scanner.announces.dropWhile (fun m => m != n)).tail
    let s' := { s with scanner.announces := rest }
    if s.passedPdp n then
      let s := modifyNumber n (fun q =>
        if q.scan == .announced then { q with scan := .missed } else q) s'
      receptionDiscard
        (scannerEvent (.tooLate n) { s with scanner.tooLate := sat16 s.scanner.tooLate })
    else openScan n (missAhead ahead s')
  else
    receptionDiscard
      (scannerEvent (.unmatched n) { s with scanner.unmatched := sat16 s.scanner.unmatched })

/-- START (R50, R51). -/
def takeStart (n : StripNo) (s : State) : State :=
  let s := clearScannerRx s
  judgeStart n (if s.scanner.reception == .idle then s else endReport s)

/-! ### DEFECT (R52, R53) -/

/-- Whether a DEFECT's fields lie in their ranges (spec/03, 3.1). -/
def defectInRange (d : Defect) : Bool :=
  1 ≤ d.kind && d.kind ≤ 6 && d.position ≤ 2599 && 1 ≤ d.extent && d.extent ≤ 2600 &&
    1 ≤ d.severity && d.severity ≤ 255

/-- A defect in range is stored, or dropped beyond the sixteenth (R52). -/
def storeDefect (n : StripNo) (d : Defect) (r : Strip) (s : State) : State :=
  let ds := r.defects.getD []
  if ds.length < 16 then modifyNumber n (fun q => { q with defects := some (ds ++ [d]) }) s
  else if r.scan == .receiving then
    { modifyNumber n (fun q => { q with scan := .truncated }) s with
      scanner.truncated := sat16 s.scanner.truncated }
  else s

/-- A DEFECT taken for the receiving strip (R52). -/
def countDefect (n : StripNo) (d : Defect) (s : State) : State :=
  let s := { s with scanner.received := min (s.scanner.received + 1) 255 }
  if defectInRange d then
    match s.stripNo n with
    | some r => storeDefect n d r s
    | none => s
  else
    { s with scanner.damaged := true, scanner.rejected := sat16 s.scanner.rejected }

/-- DEFECT (R49, R52, R53). -/
def takeDefect (d : Defect) (s : State) : State :=
  let s := clearScannerRx s
  match s.scanner.reception, s.scanner.receiving with
  | .receiving, some n =>
    if s.passedPdp n then receptionDiscard (cutOff n s) else countDefect n d s
  | .idle, _ => sequenceError none s
  | _, _ => s

/-! ### END (R53, R54) -/

/-- The scan state in which a scan ends whose numbers agree, first that applies (R54). -/
def endState (received count : Nat) (damaged : Bool) (scan : ScanState) : ScanState :=
  if received ≠ count then .incomplete
  else if damaged then .incomplete
  else if scan = .truncated then .truncated
  else .complete

/-- The scan of the receiving strip ends with its own number (R54). -/
def endScan (n : StripNo) (count : Nat) (s : State) : State :=
  match s.stripNo n with
  | none => receptionIdle s
  | some r =>
    match endState s.scanner.received count s.scanner.damaged r.scan with
    | .incomplete => endIncomplete n s
    | st => handOver n (receptionIdle (modifyNumber n (fun q => { q with scan := st }) s))

/-- END (R53, R54). -/
def takeEnd (strip : StripNo) (count : Byte) (s : State) : State :=
  let s := clearScannerRx s
  match s.scanner.reception, s.scanner.receiving with
  | .receiving, some n =>
    if s.passedPdp n then receptionIdle (cutOff n s)
    else if n = strip then endScan n count.toNat s
    else sequenceError (some n) (endIncomplete n s)
  | .discarding, _ => receptionIdle s
  | _, _ => sequenceError (some strip) s

def execScannerStart (strip : StripNo) (s : State) : Host.Outcome State Fault Refusal :=
  live s (takeStart strip)
def execDefect (kind : Byte) (position extent : BitVec 16) (severity : Byte) (s : State) :
    Host.Outcome State Fault Refusal :=
  live s (takeDefect
    { kind := kind.toNat, position := position.toNat, extent := extent.toNat
      severity := severity.toNat })
def execScannerEnd (strip : StripNo) (count : Byte) (s : State) : Host.Outcome State Fault Refusal :=
  live s (takeEnd strip count)

end Sys2Proof.Machine
end

