-- ==== Sys2Proof/Machine/Saw.lean ====
section
/-! DEFINITION. Machine/Saw.lean: the Saw Port (spec/05): orders, confirmations, faults and the
confirmation deadline. -/

namespace Sys2Proof.Machine

/-- A message of the saw has come whole: no saw-line frame is partly received. -/
def clearSawRx (s : State) : State := { s with saw.rx := { s.saw.rx with stage := .hunt } }

/-- The entry of a strip leaves the outstanding-order list; entries behind it keep their order (R83). -/
def removeOrder (n : StripNo) (s : State) : State :=
  { s with saw.orders := s.saw.orders.filter (fun o => o.strip != n) }

/-- The form of the order for a plan (R84). -/
def orderForm : CutPlan → OrderForm
  | .graded _ _ head raw _ => .cut head raw
  | .default _ _ head raw => .cut head raw
  | .pass _ => .pass

/-- At Pdp, once the plan is written, an ORDER is sent for it (R84). -/
def sendOrder (r : Strip) (s : State) : State :=
  match r.plan with
  | none => s
  | some p =>
    let o : Order := { strip := r.number, form := orderForm p }
    let s := modifySerial r.serial (fun q => { q with cut := .ordered }) s
    sendSaw (orderFrame o)
      { s with saw.orders := s.saw.orders ++ [o], saw.sent := sat16 s.saw.sent }

/-- The cut of an order applied to its record (R86). -/
def applyCut (f : OrderForm) (r : Strip) : Strip :=
  match f with
  | .cut head raw =>
    { r with
      adjustment := r.adjustment + BitVec.ofNat 32 head
      current := some raw
      cut := .confirmed }
  | .pass => { r with cut := .confirmed }

/-- A DONE for an ORDERED record (R85, R86). -/
def confirmOrder (r : Strip) (s : State) : State :=
  let form := match s.saw.orders.find? (fun o => o.strip == r.number) with
    | some o => o.form
    | none => .pass
  let s := modifySerial r.serial (applyCut form) (removeOrder r.number s)
  { s with saw.confirmed := sat16 s.saw.confirmed }

/-- A DONE that matches no waiting order (R85). -/
def strayDone (n : StripNo) (s : State) : State :=
  let s := { s with saw.strayReplies := sat16 s.saw.strayReplies }
  give (.sawStray n) s

/-- DONE, matched to the record in the track that carries the number it names (R85). -/
def takeDone (n : StripNo) (s : State) : State :=
  let s := clearSawRx s
  match s.stripNo n with
  | none => strayDone n s
  | some r =>
    match r.cut with
    | .ordered => confirmOrder r s
    | .unconfirmed =>
      let s := { s with saw.lateReplies := sat16 s.saw.lateReplies }
      give (.lateReply n) s
    | _ => strayDone n s

/-- The effect of a SAWFAULT on the record it names (R87): its table's first row that applies, except
that a record with a route is stray also when FAULTED (R119). -/
def faultRecord (n : StripNo) (s : State) : State :=
  let stray := { s with saw.strayReplies := sat16 s.saw.strayReplies }
  match s.stripNo n with
  | none => stray
  | some r =>
    match r.cut with
    | .faulted => if r.route.isSome then stray else s
    | .none => stray
    | _ =>
      if r.route.isSome then stray
      else modifySerial r.serial (fun q => { q with cut := .faulted }) (removeOrder n s)

/-- SAWFAULT: alarm SAW, a FAULT event, the last fault and the fault counter, then the record (R87). -/
def takeSawFault (n : StripNo) (code : Byte) (s : State) : State :=
  let s := latchAlarm .saw (clearSawRx s)
  let s := give (.sawFault n code) s
  faultRecord n { s with saw.lastFault := some (n, code), saw.faults := sat16 s.saw.faults }

/-- At Pem an order still ORDERED becomes UNCONFIRMED (R88). -/
def confirmationDeadline (r : Strip) (s : State) : State :=
  match r.cut with
  | .ordered =>
    let s := modifySerial r.serial (fun q => { q with cut := .unconfirmed }) (removeOrder r.number s)
    let s := { s with track.stats.cutUnconfirmed := s.track.stats.cutUnconfirmed + 1 }
    give (.unconfirmed r.number) s
  | _ => s

/-- A record that leaves the track while ORDERED has its order withdrawn (R89). -/
def withdrawOrder (r : Strip) (s : State) : State :=
  if r.cut == .ordered then
    let s := removeOrder r.number s
    { s with saw.withdrawn := sat16 s.saw.withdrawn }
  else s

def execSawDone (strip : StripNo) (s : State) : Host.Outcome State Fault Refusal :=
  live s (takeDone strip)
def execSawFault (strip : StripNo) (code : Byte) (s : State) : Host.Outcome State Fault Refusal :=
  live s (takeSawFault strip code)

end Sys2Proof.Machine
end

