-- ==== Sys2Proof/Machine/Sort.lean ====
section
/-! DEFINITION. Machine/Sort.lean: the Sort Unit (spec/07): route, choice of bay, assignment, gates,
drops, the reject chute, and the change of a bay's role. -/

namespace Sys2Proof.Machine

/-! ### Route and bay (R118 to R121) -/

/-- The route written at Psa by the first row of R118's table that applies. DESIGN CHOICE: a record without
a cut plan to which no row applies is REGRADE CUT UNCONFIRMED (notes/assumptions/51.md). -/
def routeFor (r : Strip) : Route :=
  match r.route, r.plan with
  | some rt, _ => rt
  | none, some (.pass reason) => .reject reason
  | none, plan =>
    match r.cut with
    | .faulted => .regrade .sawFault
    | .unconfirmed => .regrade .cutUnconfirmed
    | cut =>
      if r.suspect.isSome then .regrade .suspect
      else
        match plan, cut with
        | some (.default reason _ _ _), _ => .regrade reason
        | some (.graded cls grade _ _ _), .confirmed => .graded grade cls
        | _, _ => .regrade .cutUnconfirmed

/-- The lowest-numbered OPEN graded bay of a key (R120). -/
def State.openBay (s : State) (grade cls : Nat) : Option Bay :=
  allBays.find? (fun b =>
    s.role b == .graded { grade := grade, cls := cls } && s.sort.bays[b].state == some .opened)

/-- The lowest-numbered bin of a role that has room (R120). -/
def State.roomyBin (s : State) (role : Role) : Option Bay :=
  allBays.find? (fun b => s.role b == role && s.hasRoom b)

/-- The bay chosen for a route, first that applies (R120). -/
def chooseBay (s : State) : Route → Destination
  | .graded grade cls =>
    match s.openBay grade cls with
    | some b => .gradedBay b
    | none => match s.roomyBin .mixed with
      | some b => .mixedBin b
      | none => .endChute
  | .regrade _ =>
    match s.roomyBin .regrade with
    | some b => .regradeBin b
    | none => .endChute
  | .reject _ => .endChute

/-- The counter and event of a fallback (R120, R130). -/
def countFallback (n : StripNo) (rt : Route) (d : Destination) (s : State) : State :=
  match rt, d with
  | .graded _ _, .mixedBin _ => { s with sort.mixedFallbacks := sat16 s.sort.mixedFallbacks }
  | .graded _ _, .endChute =>
    give (.chuteFallback n rt) { s with sort.gradedToChute := sat16 s.sort.gradedToChute }
  | .regrade _, .endChute =>
    give (.chuteFallback n rt) { s with sort.regradeToChute := sat16 s.sort.regradeToChute }
  | _, _ => s

/-- The bay a destination names, if it is a bay (R115). -/
def Destination.bay : Destination → Option Bay
  | .gradedBay b | .regradeBin b | .mixedBin b => some b
  | .endChute => none

/-- The in-transit count of a destination changes (R115, R117, R121). -/
def moveTransit (f : Nat → Nat) (d : Destination) (s : State) : State :=
  match d.bay with
  | some b => modifyBay b (fun e => { e with inTransit := f e.inTransit }) s
  | none => { s with sort.chuteInTransit := f s.sort.chuteInTransit }

/-- The commitment to a graded bay's bundle, within the assignment (R121, R134). -/
def commitDestination (d : Destination) (s : State) : State :=
  match d with
  | .gradedBay b => commitTo b s
  | _ => s

/-- The assignment at Psa, taken whole: route, bay, in-transit count, commitment and fallbacks (R118,
R120, R121). -/
def assign (r : Strip) (s : State) : State :=
  let rt := routeFor r
  let d := chooseBay s rt
  let s := modifySerial r.serial (fun q => { q with route := some rt, bay := some d }) s
  let s := commitDestination d (moveTransit (· + 1) d s)
  countFallback r.number rt d s

/-! ### The reject chute and BIN (R124) -/

/-- BIN is added, with a FULL event, when the reject chute stands at or above its capacity and BIN is
not in the set (R124). DESIGN CHOICE: in RUN, STATE HOLD comes before FULL (notes/assumptions/37.md). -/
def judgeChute (s : State) : State :=
  if s.chuteFull && !s.sup.holds.contains .bin then
    give (.chuteFull s.sort.chuteOccupancy) (addHold .bin s)
  else s

/-- A strip has fallen into the reject chute (R123). -/
def fillChute (s : State) : State :=
  judgeChute { s with sort.chuteOccupancy := sat16 s.sort.chuteOccupancy }

/-! ### Gates and drops (R122, R123) -/

/-- The over-gate count of a bay changes; its gate follows (R122). -/
def moveOverGate (f : Nat → Nat) (b : Bay) (s : State) : State :=
  modifyBay b (fun e => { e with overGate := f e.overGate }) s

/-- A strip has dropped into a bin: its occupancy rises and stays at 65,535 (R123). -/
def fillBin (b : Bay) (s : State) : State :=
  modifyBay b (fun e => { e with occupancy := sat16 e.occupancy }) s

/-! ### The change of a bay's role (R127, R128) -/

/-- Whether a bay is in use (R127, item 3). -/
def State.bayInUse (s : State) (b : Bay) : Bool :=
  let e := s.sort.bays[b]
  0 < e.inTransit ||
    match s.role b with
    | .graded _ =>
      match e.state with
      | some .opened =>
        match s.bundles.bundles[b] with
        | some o => 0 < o.committed || 0 < o.dropped
        | none => false
      | some _ => true
      | none => false
    | .regrade | .mixed => 0 < e.occupancy.toNat
    | .disabled => false

/-- A bay takes a new role: the table entry of R128 and a fresh bundle for GRADED. A repeat of the
present role and key leaves the entry as it was. -/
def setRole (b : Bay) (role : Role) (s : State) : State :=
  if s.role b = role then s
  else
    let s := { s with store.working.bays := s.cfg.bays.set b role }
    let s := modifyBay b (fun e => { e with
      state := if role.isGraded then some .opened else none
      occupancy := 0 }) s
    setBundle b role.bundle s

end Sys2Proof.Machine
end

