-- ==== Sys2Proof/Machine/Track.lean ====
section
/-! DEFINITION. Machine/Track.lean: the Track Unit (spec/01): encoder counts, eye filters, admission,
passing events, the check eye, drops. What one millimetre of travel starts is done in the order of
`afterTravel` (notes/assumptions/10.md). -/

namespace Sys2Proof.Machine

/-! ### Records entering and leaving the track -/

/-- The number of records changed: TRACKFULL, hold effective and the completion of a stop (R11, R27,
R31). -/
def afterCount (s : State) : State :=
  let s := if 64 ≤ s.track.strips.length then addHold .trackFull s else removeHold .trackFull s
  stopTest (refreshEffective s)

/-- The business of the Scanner Port with a record that leaves the track (R48). -/
def withdrawScan (n : StripNo) (s : State) : State :=
  let s := { s with scanner.announces := s.scanner.announces.filter (fun m => m != n) }
  if s.scanner.receiving == some n then receptionDiscard s else s

/-- A record leaves the track, and its business with the other blocks is withdrawn: its announce-list
entry (R48), its order (R89), its converter requests (R97), its evaluation-queue entry (R64;
notes/assumptions/49.md) and its place in an in-transit count (R115; notes/assumptions/15.md). DESIGN CHOICE:
when it leaves before the trailing edge's passing of its drop point, an over-gate count that its leading edge
has raised stays raised (R122; notes/assumptions/48.md), and the committed count and area of the bundle it was
committed to stay too (R134; notes/assumptions/50.md). What follows from the new count is `afterCount`. -/
def leaveTrack (r : Strip) (s : State) : State :=
  let s := { s with
    track.strips := s.track.strips.filter (fun q => q.serial != r.serial)
    track.inAdmission := if s.track.inAdmission == some r.serial then none else s.track.inAdmission }
  let s := withdrawRequests r.number (withdrawOrder r (withdrawScan r.number s))
  let s := withdrawEntry r.number s
  match r.bay with
  | some d => moveTransit (· - 1) d s
  | none => s

/-! ### Admission (R4 to R7) -/

/-- The strip number after n: from 65535 to 1 (R5). -/
def numberAfter (n : StripNo) : StripNo := if n = 0xFFFF then 1 else n + 1

/-- The number to be given: numbers held by records still in the track are skipped (R5). At most 64 are
held, so fuel of 65 is enough. -/
def freeNumber (held : List StripNo) : Nat → StripNo → StripNo
  | 0, n => n
  | fuel + 1, n => if held.contains n then freeNumber held fuel (numberAfter n) else n

/-- A new record with the fields of R4 and R8. -/
def newStrip (serial : Nat) (n : StripNo) (start : Travel) : Strip :=
  { serial := serial, number := n, origin := .admitted, admission := start, adjustment := 0
    infeed := none, joined := false, joinWaits := false, current := none, check := .unchecked, scan := .none
    defects := none, eval := .notQueued, result := none, plan := none, cut := .none, suspect := none
    route := none, bay := none, raised := [], createdAt := none }

/-- An accepted leading edge at EYE-IN (R4). -/
def admitStrip (c : PendingChange) (s : State) : State :=
  if c.gateOpen && s.track.strips.length < 64 then
    let n := freeNumber (s.track.strips.map (·.number)) 65 s.track.nextNumber
    let id := s.track.nextSerial
    afterCount
      { s with
        track.strips := s.track.strips ++ [newStrip id n c.start]
        track.inAdmission := some id
        track.nextNumber := numberAfter n
        track.nextSerial := id + 1
        track.stats.admitted := s.track.stats.admitted + 1 }
  else s

/-- A chip at EYE-IN: the record is removed and leaves no mark in the statistics (R6). -/
def removeChip (r : Strip) (s : State) : State :=
  let s := leaveTrack r s
  afterCount { s with track.stats.admitted := s.track.stats.admitted - 1 }

/-- An accepted trailing edge at EYE-IN ends the admission of the record in admission (R6). -/
def endAdmission (start : Travel) (s : State) : State :=
  match s.track.inAdmission with
  | none => s
  | some id =>
    match s.stripSerial id with
    | none => { s with track.inAdmission := none }
    | some r =>
      let len := travelDiff start r.admission
      let s := { s with track.inAdmission := none }
      if len < 150 then removeChip r s
      else if len ≤ 2600 then
        offerWaiting id (modifySerial id (fun q => { q with infeed := some len.toNat }) s)
      else
        modifySerial id (fun q => { q with joined := true, current := some (min len.toNat 65535) }) s

/-- Whether the travel since a record's admission has reached 2601 mm with EYE-IN accepted blocked, the
moment of R7's test. -/
def joinReached (s : State) (r : Strip) : Bool :=
  s.track.eyeIn.accepted && decide (2601 ≤ travelDiff s.track.travel r.admission)

/-- Whether a trailing-edge change that began at or before 2600 mm is pending at EYE-IN (R7). -/
def endPending (s : State) (r : Strip) : Bool :=
  match s.track.eyeIn.pending with
  | some c => decide (travelDiff c.start r.admission ≤ 2600)
  | none => false

/-- R7's test of the record in admission. At the moment it is marked JOINED, or waits while a trailing
edge that began in time is pending; a record that waits is marked once that change is gone, wherever
reverse travel has taken the strip since. -/
def testJoined (s : State) (r : Strip) : Strip :=
  if r.joined then r
  else if joinReached s r || r.joinWaits then
    if endPending s r then { r with joinWaits := true }
    else { r with joined := true, joinWaits := false }
  else r

/-- The record in admission is marked JOINED as soon as its strip is known to be too long (R7). -/
def markJoined (s : State) : State :=
  match s.track.inAdmission with
  | none => s
  | some id => modifySerial id (testJoined s) s

/-! ### The check eye (R13 to R17) -/

/-- A lost record is removed and counted, with a LOST event (R16). -/
def loseRecord (r : Strip) (s : State) : State :=
  let s := leaveTrack r s
  let s := { s with track.stats.lost := s.track.stats.lost + 1 }
  afterCount (give (.lost r.number) s)

/-- Candidates that stand beyond Pck + tolerance expire, farthest first, while no EYE-CK leading edge is
in judgement (R13). Fuel bounds the number of records. -/
def expireCandidates : Nat → State → State
  | 0, s => s
  | fuel + 1, s =>
    if s.inJudgement then s
    else
      match s.candidate with
      | none => s
      | some r =>
        if (s.cfg.line.pck : Int) + s.cfg.line.checkTolerance < r.leading s.track.travel then
          expireCandidates fuel (loseRecord r s)
        else s

/-- The expiry test, at once (R13). -/
def expiryTest (s : State) : State := expireCandidates s.track.strips.length s

/-- The record that follows another in the track. -/
def followerOf (id : Nat) : List Strip → Option Strip
  | r :: q :: rest => if r.serial = id then some q else followerOf id (q :: rest)
  | _ => none

/-- The reference a match at travel E gives: E minus Pck (R14, R15). -/
def matchedReference (s : State) (e : Travel) : Travel := e - BitVec.ofNat 32 s.cfg.line.pck

/-- The candidate is matched, and resynchronised unless that would bring it to or behind the record
that follows it (R14). -/
def matchCandidate (r : Strip) (e : Travel) (s : State) : State :=
  let ref := matchedReference s e
  let behind :=
    match followerOf r.serial s.track.strips with
    | some q => decide (travelDiff s.track.travel ref ≤ q.leading s.track.travel)
    | none => false
  modifySerial r.serial (fun q => { q with
    check := .matched
    adjustment := if behind then q.adjustment else ref - q.admission }) s

/-- A phantom record. R15 fixes its reference E minus Pck alone; DESIGN CHOICE: as admission travel
E minus Pck with adjustment 0 (notes/assumptions/39.md). -/
def phantomStrip (serial : Nat) (ref : Travel) (pos : Int) : Strip :=
  { newStrip serial 0 ref with
    origin := .phantom, check := .matched, plan := some (.pass .noValue)
    route := some (.reject .phantom), createdAt := some pos }

/-- A record put directly ahead of the one with a serial, or at the tail when there is none (R10). -/
def insertAhead (r : Strip) (ahead : Option Nat) : List Strip → List Strip
  | [] => [r]
  | q :: rest => if ahead = some q.serial then r :: q :: rest else q :: insertAhead r ahead rest

/-- A phantom is made for an early edge or one with no candidate, unless the track is full (R15). -/
def makePhantom (e : Travel) (ahead : Option Nat) (s : State) : State :=
  if s.track.strips.length < 64 then
    let id := s.track.nextSerial
    let ref := matchedReference s e
    let pos := travelDiff s.track.travel ref
    let s := { s with
      track.strips := insertAhead (phantomStrip id ref pos) ahead s.track.strips
      track.nextSerial := id + 1
      track.ckEdge := .judged e (some id)
      track.stats.phantom := s.track.stats.phantom + 1 }
    afterCount (give (.phantom pos) s)
  else give .phantomUntracked { s with track.ckEdge := .judged e none }

/-- An EYE-CK leading edge that starts at travel E is judged (R14); the expiry is then tested again
(R13). -/
def judgeEdge (e : Travel) (s : State) : State :=
  match s.candidate with
  | none => expiryTest (makePhantom e none s)
  | some r =>
    let d := r.leading e - s.cfg.line.pck
    let tol : Int := s.cfg.line.checkTolerance
    if -tol ≤ d ∧ d ≤ tol then
      expiryTest (matchCandidate r e { s with track.ckEdge := .judged e (some r.serial) })
    else expiryTest (makePhantom e (some r.serial) s)

/-- The current length of the record that a judged edge matched or created is set (R17). DESIGN CHOICE:
a trailing edge that starts at or behind E, after reverse travel, gives 0 (notes/assumptions/43.md). -/
def setCheckLength (start : Travel) (s : State) : State :=
  match s.track.ckEdge with
  | .judged e (some id) =>
    modifySerial id (fun q => { q with
      current := some (min (travelDiff start e).toNat 65535) }) s
  | _ => s

/-- An accepted trailing edge at EYE-CK: it may judge the leading edge before it, sets the length of
the judged record, or sets a chip aside (R14, R17). -/
def closeCkEdge (start : Travel) (s : State) : State :=
  match s.track.ckEdge with
  | .none => s
  | .awaiting e =>
    if 150 ≤ travelDiff start e then
      let s := setCheckLength start (judgeEdge e s)
      { s with track.ckEdge := .none }
    else expiryTest { s with track.ckEdge := .none }
  | .judged _ _ =>
    let s := setCheckLength start s
    { s with track.ckEdge := .none }

/-- An accepted EYE-CK leading edge is judged once travel reaches 150 mm past its start with the eye
still blocked (R14). -/
def travelJudgement (s : State) : State :=
  match s.track.ckEdge with
  | .awaiting e =>
    if s.track.eyeCk.input && decide (150 ≤ travelDiff s.track.travel e) then judgeEdge e s else s
  | _ => s

/-! ### Eye filters (R3) -/

/-- The eye's filter after its pending change has been accepted (R3). -/
def EyeFilter.accept (f : EyeFilter) : EyeFilter := { f with accepted := !f.accepted, pending := none }

/-- EYE-IN's pending change is accepted when the travel since its start reaches the filter distance, and
the edge is handed to admission (R3). -/
def filterEyeIn (s : State) : State :=
  match s.track.eyeIn.pending with
  | some c =>
    if (s.cfg.line.eyeInFilter : Int) ≤ travelDiff s.track.travel c.start then
      let leading := !s.track.eyeIn.accepted
      let s := { s with track.eyeIn := s.track.eyeIn.accept }
      if leading then admitStrip c s else endAdmission c.start s
    else s
  | none => s

/-- EYE-CK's pending change likewise, the edge handed to check-eye matching (R3). -/
def filterEyeCk (s : State) : State :=
  match s.track.eyeCk.pending with
  | some c =>
    if (s.cfg.line.eyeCkFilter : Int) ≤ travelDiff s.track.travel c.start then
      let leading := !s.track.eyeCk.accepted
      let s := { s with track.eyeCk := s.track.eyeCk.accept }
      if leading then { s with track.ckEdge := .awaiting c.start } else closeCkEdge c.start s
    else s
  | none => s

/-- A change becomes pending when the input level differs from the accepted level and none is pending;
a pending change is discarded when the input has returned (R3). For a level that stands since the reset
the gate was closed, whatever it is by the first travel (R3's note; notes/assumptions/11.md). -/
def EyeFilter.follow (f : EyeFilter) (travel : Travel) (gateOpen : Bool) : EyeFilter :=
  if f.input = f.accepted then { f with pending := none }
  else if f.pending.isSome then f
  else { f with pending := some { start := travel, gateOpen := gateOpen && !f.fromReset } }

/-- The input level at an eye becomes `blocked`; one that changes stands since the reset no more. -/
def EyeFilter.see (f : EyeFilter) (blocked : Bool) : EyeFilter :=
  { f with input := blocked, fromReset := f.fromReset && f.input == blocked }

/-- The level at an eye's pin becomes `blocked`. -/
def seeEye (eye : Eye) (blocked : Bool) (s : State) : State :=
  match eye with
  | .eyeIn => { s with track.eyeIn := s.track.eyeIn.see blocked }
  | .eyeCk => { s with track.eyeCk := s.track.eyeCk.see blocked }

/-- Both eyes' filters look at their inputs. -/
def followEyes (s : State) : State :=
  { s with
    track.eyeIn := s.track.eyeIn.follow s.track.travel s.gateInOpen
    track.eyeCk := s.track.eyeCk.follow s.track.travel s.gateInOpen }

/-- The level at an eye changes (R3). A discarded trailing change at EYE-IN can mark the record JOINED
at once (R7), and an edge set aside at EYE-CK lets the expiry be tested at once (R13). -/
def eyeInput (eye : Eye) (blocked : Bool) (s : State) : State :=
  let s := followEyes (seeEye eye blocked s)
  match eye with
  | .eyeIn => markJoined s
  | .eyeCk => expiryTest s

/-! ### Drops (R18, R19) -/

/-- The statistics counter of a destination kind (R18). -/
def countDrop (d : Destination) (s : State) : State :=
  match d with
  | .gradedBay _ => { s with track.stats.bundled := s.track.stats.bundled + 1 }
  | .regradeBin _ => { s with track.stats.regrade := s.track.stats.regrade + 1 }
  | .mixedBin _ => { s with track.stats.mixed := s.track.stats.mixed + 1 }
  | .endChute => { s with track.stats.reject := s.track.stats.reject + 1 }

/-- What the owners of a drop do besides the Track Unit: the bin's occupancy, the bundle's count, or the
reject chute's occupancy (R18, R19, R123, R135). -/
def ownDrop (d : Destination) (n : StripNo) (s : State) : State :=
  match d with
  | .gradedBay b => dropInto b n s
  | .regradeBin b => if (s.role b).isBin then fillBin b s else s
  | .mixedBin b => if (s.role b).isBin then fillBin b s else s
  | .endChute => fillChute s

/-- A record drops into its bay or the end chute: it leaves the track, its statistic rises, every owner
takes the event, and then the new count is looked at (R18, R19, R31). -/
def dropRecord (r : Strip) (d : Destination) (s : State) : State :=
  let s := countDrop d (leaveTrack r s)
  afterCount (ownDrop d r.number s)

/-! ### Passing events (R12) -/

/-- The position of an event's point; none for a bay's drop point when the record has no bay (R12). -/
def eventPoint (l : LineSettings) (r : Strip) : PassEvent → Option Nat
  | .pscLead => some l.psc
  | .pmoSettleLead => some (l.pmo + l.settle)
  | .pdpLead => some l.pdp
  | .pemLead => some l.pem
  | .pemSettleLead => some (l.pem + l.settle)
  | .psaLead => some l.psa
  | .pbLead | .pbTrail =>
    match r.bay with
    | some d => d.bay.map (fun b => l.pb[b])
    | none => none
  | .pmoTrail => some l.pmo
  | .pemTrail => some l.pem
  | .pendTrail => some l.pend

/-- Whether an event is of the trailing edge (R12). -/
def PassEvent.isTrailing : PassEvent → Bool
  | .pmoTrail | .pemTrail | .pbTrail | .pendTrail => true
  | _ => false

/-- The position of the edge an event is of, when it is known (R9, R12). -/
def Strip.edge (r : Strip) (e : PassEvent) (t : Travel) : Option Int :=
  if e.isTrailing then r.trailing t else some (r.leading t)

/-- Whether an event is to be raised now: not raised before, its edge at or beyond its point, and, for a
phantom, the point beyond the position where it was made (R12). It is asked at each change of travel,
reverse too, also of an edge that a cut or a resync has moved since (notes/assumptions/13.md). -/
def eventDue (s : State) (r : Strip) (e : PassEvent) : Bool :=
  !r.raised.contains e &&
    match eventPoint s.cfg.line r e, r.edge e s.track.travel with
    | some p, some x =>
      decide ((p : Int) ≤ x) && match r.createdAt with
        | some c => decide (c < (p : Int))
        | none => true
    | _, _ => false

/-- At Psc: ANNOUNCE is sent and the strip joins the announce list; phantoms are never announced
(R47). -/
def announce (r : Strip) (s : State) : State :=
  if r.isPhantom then s
  else
    let s := modifySerial r.serial (fun q => { q with scan := .announced }) s
    sendScanner (announceFrame r.number)
      { s with scanner.announces := s.scanner.announces ++ [r.number] }

/-- At Pdp: the plan is fixed, then the order for it is sent; a phantom has no decision (R76, R84). -/
def decisionPoint (r : Strip) (s : State) : State :=
  if r.isPhantom then s
  else
    let s := decidePlan r s
    match s.stripSerial r.serial with
    | some r => sendOrder r s
    | none => s

/-- The trailing edge passes the drop point of the record's bay: the gate's count falls and the record
drops (R18, R122). -/
def passBay (r : Strip) (s : State) : State :=
  match r.bay with
  | some d => match d.bay with
    | some b => dropRecord r d (moveOverGate (· - 1) b s)
    | none => s
  | none => s

/-- The trailing edge passes Pend: a record whose bay is END CHUTE falls into the chute (R19). -/
def passEnd (r : Strip) (s : State) : State :=
  match r.bay with
  | some .endChute => dropRecord r .endChute s
  | _ => s

/-- The leading edge reaches the drop point of the record's bay: the gate opens (R122). -/
def reachBay (r : Strip) (s : State) : State :=
  match r.bay with
  | some d => match d.bay with
    | some b => moveOverGate (· + 1) b s
    | none => s
  | none => s

/-- A raised passing event is taken by its owners (R12's table). -/
def takeEvent (r : Strip) (s : State) : PassEvent → State
  | .pscLead => announce r s
  | .pmoSettleLead => moulderSlice r (markAtSample [0, 1, 2, 3] r s)
  | .pdpLead => decisionPoint r s
  | .pemLead => confirmationDeadline r s
  | .pemSettleLead => endMatchSlice r (markAtSample [4, 5] r s)
  | .psaLead => assign r s
  | .pbLead => reachBay r s
  | .pmoTrail => s
  | .pemTrail => s
  | .pbTrail => passBay r s
  | .pendTrail => passEnd r s

/-- The events of one record, leading edges first, each in travel order of its points. -/
def PassEvent.all : List PassEvent :=
  [.pscLead, .pmoSettleLead, .pdpLead, .pemLead, .pemSettleLead, .psaLead, .pbLead,
    .pmoTrail, .pemTrail, .pbTrail, .pendTrail]

/-- One event of the record with a serial is raised when it is due, once (R12). -/
def raiseEvent (id : Nat) (s : State) (e : PassEvent) : State :=
  match s.stripSerial id with
  | none => s
  | some r =>
    if eventDue s r e then
      let r' := { r with raised := e :: r.raised }
      takeEvent r' (modifySerial id (fun q => { q with raised := e :: q.raised }) s) e
    else s

/-- Every event of one record. -/
def raiseRecord (s : State) (id : Nat) : State := PassEvent.all.foldl (raiseEvent id) s

/-- The passing events of every record, farthest first (R10, R12, R121). -/
def passingEvents (s : State) : State := (s.track.strips.map (·.serial)).foldl raiseRecord s

/-! ### Travel (R1, R2) -/

/-- What a millimetre of travel, either way, starts: the filters, the JOINED mark, the judgement of the
check eye, the expiry of candidates, and the passing events. -/
def afterTravel (s : State) : State :=
  passingEvents (expiryTest (travelJudgement (markJoined (filterEyeCk (filterEyeIn s)))))

/-- The travel counter moves by a millimetre, forward or reverse, modulo 2^32 (R1). -/
def moveTravel (forward : Bool) (s : State) : State :=
  afterTravel
    { s with track.travel := if forward then s.track.travel + 1 else s.track.travel - 1 }

/-- A changed counts-per-mm setting takes effect at the next count, and the count remainder is then
discarded (R1). -/
def takeCounts (s : State) : State :=
  if s.track.countsInForce = s.cfg.line.countsPerMm then s
  else { s with track.countsInForce := s.cfg.line.countsPerMm, track.remainder := 0 }

/-- One count, forward or reverse (R1). -/
def count (forward : Bool) (s : State) : State :=
  let s := takeCounts (followEyes s)
  let rem := if forward then s.track.remainder + 1 else s.track.remainder - 1
  let cpm : Int := s.track.countsInForce
  if cpm ≤ rem then moveTravel true { s with track.remainder := rem - cpm }
  else if rem ≤ -cpm then moveTravel false { s with track.remainder := rem + cpm }
  else { s with track.remainder := rem }

/-- Whether an edge on an input is a forward count: ENC-A leads (R1). -/
def forwardEdge (a b : Bool) : EncoderInput → Bool
  | .encA => a == b
  | .encB => a != b

/-- The level of an encoder input changes. -/
def flipEncoder (input : EncoderInput) (s : State) : State :=
  match input with
  | .encA => { s with track.encA := !s.track.encA }
  | .encB => { s with track.encB := !s.track.encB }

/-- A quadrature edge (R1). -/
def encoderEdge (input : EncoderInput) (s : State) : State :=
  count (forwardEdge s.track.encA s.track.encB input) (flipEncoder input s)

/-- The feed speed of an interval's net travel: travel × 0.6 m/min, the fraction dropped, 0 to 600
(R2). -/
def speedOf (net : Int) : Nat := min (net.toNat * 6 / 10) 600

/-- A 100 ms interval ends, and the feed speed is set from its net travel (R2). Before its end this
event does not occur (notes/assumptions/3.md). -/
def endInterval (s : State) : State :=
  if s.track.intervalEnd ≤ s.now then
    { s with
      track.speed := speedOf (travelDiff s.track.travel s.track.intervalStart)
      track.intervalStart := s.track.travel
      track.intervalEnd := s.track.intervalEnd + ms 100 }
  else s

/-- The pins' levels are the outside world's, so they change without supply too. -/
def execEncoderCount (input : EncoderInput) (s : State) : Host.Outcome State Fault Refusal :=
  if s.powered then live s (encoderEdge input) else .next (flipEncoder input s)

/-- The pin's level is the outside world's, so it changes without supply too. -/
def execEyeInputChange (eye : Eye) (blocked : Bool) (s : State) : Host.Outcome State Fault Refusal :=
  if s.powered then live s (eyeInput eye blocked) else .next (seeEye eye blocked s)

def execSpeedIntervalEnd (s : State) : Host.Outcome State Fault Refusal := live s endInterval

end Sys2Proof.Machine
end

