-- ==== Sys2Proof/Machine/BayRequests.lean ====
section
/-! DEFINITION. Machine/BayRequests.lean: the requests of the Sort Unit, the Bundle Unit, the Label
Composer and the Printer Port. Reply bodies are laid out under R195 as notes/assumptions/28.md reads it;
absent values as notes/assumptions/30.md says. -/

namespace Sys2Proof.Machine

/-! ### Sort Unit (R126 to R130) -/

/-- The role and key of a bay; an absent key is grade 0 and class 0xFF (R129, R195). -/
def roleBytes : Role → List Byte
  | .graded k => u8 0 ++ u8 k.grade ++ u8 k.cls
  | r => u8 r.code ++ u8 0 ++ u8 255

/-- The state of a bay, 0xFF when absent (R129, R195). -/
def bayStateBytes : Option BayState → List Byte
  | some st => u8 st.code
  | none => u8 255

/-- One bay of BAY READ (R129). -/
def bayBytes (s : State) (b : Bay) : List Byte :=
  let e := s.sort.bays[b]
  roleBytes (s.role b) ++ bayStateBytes e.state ++ u16 (s.capacity b) ++ u16 e.occupancy.toNat ++
    u8 e.inTransit ++ u8 e.overGate ++ flag (s.gateOpen b)

/-- The reply body of BAY READ (R129). -/
def bayBody (s : State) : List Byte :=
  allBays.flatMap (bayBytes s) ++ u16 s.sort.chuteOccupancy.toNat ++
    u16 s.cfg.bundling.chuteCapacity ++ u8 s.sort.chuteInTransit ++
    flag (s.sup.holds.contains .bin) ++
    counters [s.sort.mixedFallbacks, s.sort.gradedToChute, s.sort.regradeToChute]

/-- BAY READ changes no state (R129). -/
def serveBayRead (body : List Byte) : State → Served := sized 0 body (fun s => accept (bayBody s) s)

/-- The index of the first field of a BAY SET out of range (R127, item 1). -/
def baySetRange (bay role grade cls : Nat) : Option Nat :=
  if bay < 1 ∨ 12 < bay then some 1
  else if 3 < role then some 2
  else if role = 0 ∧ (grade < 1 ∨ 8 < grade) then some 3
  else if role = 0 ∧ 15 < cls then some 4
  else none

/-- Whether a role is GRADED with a key the grading tables do not allow (R127, item 2). -/
def keyInvalid (cfg : WorkingConfig) : Role → Bool
  | .graded k => !k.valid cfg
  | _ => false

/-- The effect of an accepted BAY SET (R128). -/
def baySetEffect (b : Bay) (role : Role) (s : State) : State :=
  let s := setRole b role s
  checkAfterWrite { s with store.edited := true }

/-- BAY SET, judged in the order of R127; the failing check of an INVALID is 4 (R191). DESIGN CHOICE: one
that repeats the present role and key of a bay in use is refused STATE by R127's third step, and R128's
sentence on repeating is read of a bay that is free (notes/assumptions/46.md). -/
def serveBaySet (body : List Byte) : State → Served :=
  sized 4 body (fun s =>
    let bay := (byteAt body 0).toNat
    let role := (byteAt body 1).toNat
    let grade := (byteAt body 2).toNat
    let cls := (byteAt body 3).toNat
    match baySetRange bay role grade cls, bayOf bay with
    | some i, _ => refuse .range i s
    | none, none => refuse .range 1 s
    | none, some b =>
      let r := roleOf role grade cls
      if keyInvalid s.cfg r then refuse .invalid 4 s
      else if s.bayInUse b then refuse .state 0 s
      else accept [] (baySetEffect b r s))

/-- The reject chute is reported emptied: occupancy 0, BIN removed, EMPTIED given (R126). DESIGN CHOICE:
when the line returns to RUN, STATE RUN comes before EMPTIED (notes/assumptions/37.md). -/
def emptyChute (s : State) : State :=
  let prior := s.sort.chuteOccupancy
  give (.chuteEmptied prior) (removeHold .bin { s with sort.chuteOccupancy := 0 })

/-- A bin is reported emptied: its occupancy becomes 0, its in-transit count stays (R126). -/
def emptyBin (b : Bay) (s : State) : State := modifyBay b (fun e => { e with occupancy := 0 }) s

/-- BIN EMPTIED: 1 to 12 a bay, 13 the reject chute (R126; spec/13, 13.1). -/
def serveBinEmptied (body : List Byte) : State → Served :=
  sized 1 body (fun s =>
    let n := (byteAt body 0).toNat
    if n = 13 then accept (u16 s.sort.chuteOccupancy.toNat) (emptyChute s)
    else
      match bayOf n with
      | none => refuse .range 1 s
      | some b =>
        if (s.role b).isBin then accept (u16 (s.sort.bays[b]).occupancy.toNat) (emptyBin b s)
        else refuse .notFound 0 s)

/-! ### Bundle Unit (R137, R139, R140, R145) -/

/-- One entry of the dispatch list in BUNDLE READ: number, bay, label state (R145). -/
def dispatchBytes (r : DispatchRecord) : List Byte :=
  u32 r.number ++ u8 (r.bay.val + 1) ++ u8 r.label.code

/-- The limits of a bundle, absent while it is empty (R132, R195). -/
def limitsBytes : Option BundleLimits → List Byte
  | none => u16 0 ++ u8 0 ++ u32 0 ++ u8 0
  | some l => u16 l.nominal ++ u8 l.width ++ u32 l.target ++ u8 l.maxStrips

/-- Every field of an open bundle, in the order of R132; an absent close reason is 0xFF (R145, R195). -/
def OpenBundle.bytes (o : OpenBundle) : List Byte :=
  u8 o.key.grade ++ u8 o.key.cls ++ limitsBytes o.limits ++ u8 o.committed ++ u32 o.committedArea ++
    u8 o.dropped ++ u32 o.droppedArea ++ optStrip o.first ++ optStrip o.last ++
    o.lot.getD (List.replicate 12 0) ++ (match o.closeReason with
      | some r => u8 r.code
      | none => u8 255)

/-- The dispatch record of a bay whole, or 48 bytes of 0 (R145, R195). -/
def recordBytes : Option DispatchRecord → List Byte
  | some r => r.bytes
  | none => List.replicate 48 0

/-- The part of BUNDLE READ that every selector gives (R145). -/
def bundleHeader (s : State) : List Byte :=
  u32 s.bundles.nextNumber ++ textField 12 s.bundles.lot ++ textField 10 s.bundles.date ++
    counted8 s.bundles.dispatch dispatchBytes

/-- The part of BUNDLE READ for one bay (R145). -/
def bundleOf (s : State) (b : Bay) (o : OpenBundle) : List Byte :=
  bayStateBytes (s.sort.bays[b]).state ++ o.bytes ++ recordBytes (s.record b)

/-- BUNDLE READ (R145). -/
def serveBundleRead (body : List Byte) : State → Served :=
  sized 1 body (fun s =>
    let n := (byteAt body 0).toNat
    if 12 < n then refuse .range 1 s
    else
      match bayOf n with
      | none => accept (bundleHeader s) s
      | some b =>
        match s.bundles.bundles[b] with
        | none => refuse .notFound 0 s
        | some o => accept (bundleHeader s ++ bundleOf s b o) s)

/-- The effect of an accepted BAY CLOSE: FILLED with reason HOST, and the closing test (R136, R137). -/
def bayCloseEffect (b : Bay) (o : OpenBundle) (s : State) : State :=
  closeTest b (setBay b .filled (setBundle b (some { o with closeReason := some .host }) s))

/-- BAY CLOSE, judged in the order of R137. The counts of the reply are those of the bundle it names
(DESIGN CHOICE, notes/assumptions/41.md). -/
def serveBayClose (body : List Byte) : State → Served :=
  sized 1 body (fun s =>
    match bayOf (byteAt body 0).toNat with
    | none => refuse .range 1 s
    | some b =>
      match s.bundles.bundles[b] with
      | none => refuse .notFound 0 s
      | some o =>
        if (s.sort.bays[b]).state ≠ some .opened then refuse .state 0 s
        else if o.committed = 0 then refuse .state 0 s
        else
          let s := bayCloseEffect b o s
          accept (bayStateBytes (s.sort.bays[b]).state ++ u8 o.committed ++ u8 o.dropped) s)

/-- LOT SET: both texts tested against the allowed set (R140, R151). -/
def serveLotSet (body : List Byte) : State → Served :=
  sized 22 body (fun s =>
    let text := substituteText s.cfg.allowed s.cfg.label.substitute body
    accept (u8 (countReplaced s.cfg.allowed body))
      { s with bundles.lot := text.take 12, bundles.date := text.drop 12 })

/-- NEXT NUMBER replies with the number as it stood before (R139). -/
def serveNextNumber (body : List Byte) : State → Served :=
  sized 4 body (fun s =>
    let n := readLe body
    if n < 1 ∨ 999999999 < n then refuse .range 1 s
    else accept (u32 s.bundles.nextNumber) { s with bundles.nextNumber := n })

/-! ### Label Composer (R148, R164) -/

/-- Whether the composition in flight uses a slot's template (R148). -/
def slotInUse (s : State) (k : Fin 8) : Bool :=
  match s.labels.composing with
  | some c => c.slot == k
  | none => false

/-- Template bytes are stored in a slot, the edited flag is set and the check follows in START and READY
(R148, R190, R191). -/
def writeTemplate (k : Fin 8) (bytes : List Byte) (s : State) : State :=
  checkAfterWrite
    { s with
      store.working.templates := s.cfg.templates.set k bytes
      store.edited := true }

/-- TEMPLATE WRITE, judged in the order of R148. A body without a slot byte is refused LENGTH (DESIGN
CHOICE, notes/assumptions/27.md). -/
def serveTemplateWrite (body : List Byte) (s : State) : Served :=
  match body with
  | [] => refuse .length 0 s
  | slot :: bytes =>
    if h : 1 ≤ slot.toNat ∧ slot.toNat ≤ 8 then
      let k : Fin 8 := ⟨slot.toNat - 1, by omega⟩
      if 192 < bytes.length then refuse .length 0 s
      else if slotInUse s k then refuse .busy 0 s
      else accept [] (writeTemplate k bytes s)
    else refuse .range 1 s

/-- The bundle number of a bay's dispatch record, or 0. -/
def State.numberOf (s : State) (b : Bay) : Nat := orZero ((s.record b).map (·.number))

/-- The labels of the queue, the head in flight or not (R164). -/
def queueBytes (s : State) : List Byte :=
  let inFlight := s.printer.inFlight
  match s.labels.queue with
  | [] => u8 0
  | l :: rest =>
    let entry (fl : Bool) (l : Label) : List Byte :=
      u32 l.number ++ u8 l.text.length ++ flag l.printed ++ flag fl
    u8 (rest.length + 1) ++ entry inFlight l ++ rest.flatMap (entry false)

/-- The composer's last fault: fault, slot and cursor, all 0 when absent (R164). -/
def lastFaultBytes : Option LastFault → List Byte
  | some f => u8 f.fault.code ++ u8 (f.slot.val + 1) ++ u8 f.cursor
  | none => u8 0 ++ u8 0 ++ u8 0

/-- The reply body of LABEL READ (R164). -/
def labelBody (s : State) : List Byte :=
  flag s.labels.composing.isSome ++ u32 (orZero (s.labels.composing.map (·.record.number))) ++
    u8 (s.cfg.label.slot.val + 1) ++ s.cfg.templates.toList.flatMap (fun t => u8 t.length) ++
    counted8 s.labels.requests (fun b => u32 (s.numberOf b)) ++ queueBytes s ++
    lastFaultBytes s.labels.lastFault ++
    counters [s.labels.completed, s.labels.faults, s.labels.overflows]

/-- LABEL READ changes no state (R164). -/
def serveLabelRead (body : List Byte) : State → Served :=
  sized 0 body (fun s => accept (labelBody s) s)

/-! ### Printer Port (R173, R175 to R177) -/

/-- The bundle number of the label in flight, or 0 (R173, R177). -/
def inFlightNumber (s : State) : Nat := orZero (s.labelInFlight.map (·.number))

/-- The effect of PRINTER OFFLINE (R173). -/
def goOffline (s : State) : State :=
  if s.printer.online then
    let s := { s with printer.online := false }
    if s.printer.inFlight then { s with printer.idlePending := true } else give (.printerIdle none) s
  else s

/-- PRINTER OFFLINE (R173). -/
def servePrinterOffline (body : List Byte) : State → Served :=
  sized 0 body (fun s => accept (u32 (inFlightNumber s)) (goOffline s))

/-- PRINTER ONLINE: ONLINE, idle pending cleared, and the sending test (R173). -/
def servePrinterOnline (body : List Byte) : State → Served :=
  sized 0 body (fun s =>
    accept [] (sendingTest { s with printer.online := true, printer.idlePending := false }))

/-- REPRINT and RELEASE UNLABELLED are judged alike (R175, R176): the bay and its record, or the
refusal. -/
def judgeBlocked (n : Nat) (s : State) : Except Refuse Bay :=
  match bayOf n with
  | none => .error .range
  | some b =>
    if !(s.role b).isGraded then .error .notFound
    else if (s.sort.bays[b]).state ≠ some .blocked then .error .state
    else .ok b

/-- The detail of a refusal: RANGE names field 1 (R182). -/
def refusalDetail : Refuse → Nat
  | .range => 1
  | _ => 0

/-- The effect of an accepted REPRINT (R175). -/
def reprintEffect (b : Bay) (s : State) : State :=
  let s := modifyRecord b (fun r => { r with reprints := min (r.reprints + 1) 255 }) s
  requestComposition b (setBay b .closing s)

/-- REPRINT (R175). -/
def serveReprint (body : List Byte) : State → Served :=
  sized 1 body (fun s =>
    match judgeBlocked (byteAt body 0).toNat s with
    | .error e => refuse e (refusalDetail e) s
    | .ok b =>
      let s := reprintEffect b s
      accept (u32 (s.numberOf b) ++ u8 (orZero ((s.record b).map (·.reprints)))) s)

/-- RELEASE UNLABELLED (R176): the Bundle Unit releases the record (R143). -/
def serveReleaseUnlabelled (body : List Byte) : State → Served :=
  sized 1 body (fun s =>
    match judgeBlocked (byteAt body 0).toNat s with
    | .error e => refuse e (refusalDetail e) s
    | .ok b => accept (u32 (s.numberOf b)) (releaseRecord b s))

/-- A time of n quarter-milliseconds in milliseconds; whether a part of one counts is a free value
(R177; notes/assumptions/24.md). -/
def wholeMillis (n : Nat) : Nat :=
  if n % 4 ≠ 0 ∧ Config.partMillisecondCounts n then n / 4 + 1 else n / 4

/-- The time left on the apply timer in milliseconds, or 0 when it is stopped (R177). -/
def timeLeft (s : State) : Nat :=
  match s.printer.applyExpiry with
  | some t => wholeMillis (t - s.now)
  | none => 0

/-- The last failed label, as bundle number and bay, or 0 and 0 (R177). -/
def lastFailedBytes : Option (Nat × Bay) → List Byte
  | some (n, b) => u32 n ++ u8 (b.val + 1)
  | none => u32 0 ++ u8 0

/-- The reply body of PRINTER READ; the printer state and the ready flag are coded in the order of
R167's table: ONLINE 0, seen 0 (R177, R195). -/
def printerBody (s : State) : List Byte :=
  let p := s.printer
  u8 (if p.online then 0 else 1) ++ u8 (if p.ready then 0 else 1) ++ flag p.idlePending ++
    u32 (inFlightNumber s) ++ u16 (timeLeft s) ++ u8 s.labels.queue.length ++
    lastFailedBytes p.lastFailed ++
    counters [p.lineErrors, p.sent, p.applied, p.faults, p.timeouts, p.lateApplies, p.stray]

/-- PRINTER READ changes no state (R177). -/
def servePrinterRead (body : List Byte) : State → Served :=
  sized 0 body (fun s => accept (printerBody s) s)

/-! ### Meanings -/

def execBayRead (tag : Byte) (body : List Byte) (s : State) : Host.Outcome State Fault Refusal :=
  live s (takeFrame 0x18 tag (serveBayRead body))
def execBaySet (tag : Byte) (body : List Byte) (s : State) : Host.Outcome State Fault Refusal :=
  live s (takeFrame 0x19 tag (serveBaySet body))
def execBinEmptied (tag : Byte) (body : List Byte) (s : State) : Host.Outcome State Fault Refusal :=
  live s (takeFrame 0x1A tag (serveBinEmptied body))
def execBundleRead (tag : Byte) (body : List Byte) (s : State) : Host.Outcome State Fault Refusal :=
  live s (takeFrame 0x1C tag (serveBundleRead body))
def execBayClose (tag : Byte) (body : List Byte) (s : State) : Host.Outcome State Fault Refusal :=
  live s (takeFrame 0x1D tag (serveBayClose body))
def execLotSet (tag : Byte) (body : List Byte) (s : State) : Host.Outcome State Fault Refusal :=
  live s (takeFrame 0x1E tag (serveLotSet body))
def execNextNumber (tag : Byte) (body : List Byte) (s : State) : Host.Outcome State Fault Refusal :=
  live s (takeFrame 0x1F tag (serveNextNumber body))
def execTemplateWrite (tag : Byte) (body : List Byte) (s : State) : Host.Outcome State Fault Refusal :=
  live s (takeFrame 0x20 tag (serveTemplateWrite body))
def execLabelRead (tag : Byte) (body : List Byte) (s : State) : Host.Outcome State Fault Refusal :=
  live s (takeFrame 0x21 tag (serveLabelRead body))
def execPrinterOffline (tag : Byte) (body : List Byte) (s : State) : Host.Outcome State Fault Refusal :=
  live s (takeFrame 0x24 tag (servePrinterOffline body))
def execPrinterOnline (tag : Byte) (body : List Byte) (s : State) : Host.Outcome State Fault Refusal :=
  live s (takeFrame 0x25 tag (servePrinterOnline body))
def execReprint (tag : Byte) (body : List Byte) (s : State) : Host.Outcome State Fault Refusal :=
  live s (takeFrame 0x26 tag (serveReprint body))
def execReleaseUnlabelled (tag : Byte) (body : List Byte) (s : State) :
    Host.Outcome State Fault Refusal :=
  live s (takeFrame 0x27 tag (serveReleaseUnlabelled body))
def execPrinterRead (tag : Byte) (body : List Byte) (s : State) : Host.Outcome State Fault Refusal :=
  live s (takeFrame 0x28 tag (servePrinterRead body))

end Sys2Proof.Machine
end

