-- ==== Sys2Proof/Machine/LineRequests.lean ====
section
/-! DEFINITION. Machine/LineRequests.lean: the requests of the Line Supervisor, the Track Unit, the
Scanner Port, the Grading Engine, the Saw Port and the Head Monitor. Reply bodies are laid out under
R195 as notes/assumptions/28.md reads it. -/

namespace Sys2Proof.Machine

/-! ### Line Supervisor (R29 to R41, R44) -/

/-- The hold-source set as bits, in the order of R25's table (R195). -/
def holdBytes (s : State) : List Byte := u8 (setBits HoldSource.all s.sup.holds)

/-- The line state as one byte. -/
def lineBytes (s : State) : List Byte := u8 s.sup.line.code

/-- The ten statistics, in the order of R20's table. -/
def Statistics.list (t : Statistics) : List Count32 :=
  [t.admitted, t.phantom, t.lost, t.bundled, t.regrade, t.mixed, t.reject, t.lateDecisions,
    t.cutUnconfirmed, t.scannerFaults]

/-- The reply body of STATUS (R44). -/
def statusBody (s : State) : List Byte :=
  lineBytes s ++ holdBytes s ++ flag s.sup.holdEffective ++ flag s.sup.stopPending ++
    u8 (failSafeCode s.sup.failSafe) ++ u8 s.sup.resetCause.code ++
    counted8 s.sup.alarms Alarm.bytes ++ u8 (periodCode s.cfg.supervision.period) ++
    u8 s.sup.window.code ++ u8 s.sup.guard.code ++ u16 s.track.speed ++
    s.track.stats.list.flatMap (fun c => u32 c.toNat)

/-- STATUS changes no state (R44). -/
def serveStatus (body : List Byte) : State → Served := sized 0 body (fun s => accept (statusBody s) s)

/-- The effect of an accepted RUN: the monitors become active, a LONG window starts, and the line goes to
RUN, or to HOLD with a hold source present (R29). -/
def beginRun (s : State) : State :=
  changeLine (if s.sup.holds.isEmpty then .run else .hold) (startGuard (startLong s))

/-- RUN: the state test first, then the running check (R29). -/
def serveRun (body : List Byte) : State → Served :=
  sized 0 body (fun s =>
    if s.sup.line ≠ .ready then refuse .state 0 s
    else if s.heads.check = .running then refuse .busy 0 s
    else
      let s := beginRun s
      accept (lineBytes s) s)

/-- The effect of STOP in each line state (R30). -/
def stopEffect (s : State) : State :=
  match s.sup.line with
  | .run | .hold => enterStopping s
  | .failsafe => { s with sup.stopPending := true }
  | _ => s

/-- STOP (R30). -/
def serveStop (body : List Byte) : State → Served :=
  sized 0 body (fun s =>
    let s := stopEffect s
    accept (lineBytes s ++ flag s.sup.stopPending) s)

/-- HOLD adds HOST to the hold-source set (R32). -/
def serveHold (body : List Byte) : State → Served :=
  sized 0 body (fun s =>
    let s := addHold .host s
    accept (holdBytes s) s)

/-- RELEASE removes HOST from the hold-source set (R32). -/
def serveRelease (body : List Byte) : State → Served :=
  sized 0 body (fun s =>
    let s := removeHold .host s
    accept (holdBytes s) s)

/-- The effect of an accepted RESUME, by the first line of R38's table that applies. -/
def leaveFailsafe (s : State) : State :=
  let s := startLong s
  if s.sup.stopPending then enterStopping { s with sup.stopPending := false }
  else if s.sup.holds.isEmpty then changeLine .run s
  else changeLine .hold s

/-- RESUME (R38). -/
def serveResume (body : List Byte) : State → Served :=
  sized 0 body (fun s =>
    if s.sup.line = .failsafe then
      let s := leaveFailsafe s
      accept (lineBytes s) s
    else refuse .state 0 s)

/-- The code of a verdict, in the order of R34's table. -/
def KeepAliveVerdict.code : KeepAliveVerdict → Nat
  | .ignored => 0 | .valid => 1 | .early => 2

/-- KEEPALIVE: the verdict, and the line state after it (R34). -/
def serveKeepalive (body : List Byte) : State → Served :=
  sized 0 body (fun s =>
    let v := judgeKeepAlive s
    let s := keepAliveEffect s
    accept (u8 v.code ++ lineBytes s) s)

/-- Whether an alarm's cause is absent (R40). -/
def causeAbsent (s : State) : Alarm → Bool
  | .keepAlive => s.sup.line != .failsafe
  | .guard => !s.sup.holds.contains .guard
  | .head n => s.heads.records[n].latched.isNone
  | .temp => !s.sup.holds.contains .temp
  | .saw => !s.track.strips.any (fun r => r.cut == .faulted)
  | .config => s.sup.line != .start

/-- Every alarm whose cause is absent leaves the list (R41). -/
def clearAlarms (s : State) : State :=
  { s with sup.alarms := s.sup.alarms.filter (fun a => !causeAbsent s a) }

/-- ALARM CLEAR lists the alarms that remain (R41). -/
def serveAlarmClear (body : List Byte) : State → Served :=
  sized 0 body (fun s =>
    let s := clearAlarms s
    accept (counted8 s.sup.alarms Alarm.bytes) s)

/-! ### Track Unit (R21; spec/13, 13.3) -/

/-- The plan part of a strip summary: kind, grade or reason, class (spec/13, 13.3). -/
def planBytes : Option CutPlan → List Byte
  | none => u8 0 ++ u8 0 ++ u8 255
  | some (.graded c g _ _ _) => u8 1 ++ u8 g ++ u8 c
  | some (.default r c _ _) => u8 2 ++ u8 r.code ++ u8 c
  | some (.pass r) => u8 3 ++ u8 r.code ++ u8 255

/-- A strip summary, 20 bytes (spec/13, 13.3). -/
def Strip.summary (t : Travel) (r : Strip) : List Byte :=
  u16 r.number.toNat ++ i32 (r.leading t) ++
    u16 (if r.joined then 0xFFFF else orZero r.infeed) ++ u16 (orZero r.current) ++
    u8 r.check.code ++ u8 r.scan.code ++ u8 r.eval.code ++ planBytes r.plan ++ u8 r.cut.code ++
    u8 (orZero (r.suspect.map (·.val + 1))) ++ u8 (orZero (r.route.map Route.code)) ++
    u8 (orZero (r.bay.map Destination.code))

/-- The reply body of TRACK READ from a starting index (R21). -/
def trackBody (start : Nat) (s : State) : List Byte :=
  u8 s.track.strips.length ++ u8 start ++
    counted8 ((s.track.strips.drop start).take 12) (Strip.summary s.track.travel)

/-- TRACK READ (R21). -/
def serveTrackRead (body : List Byte) : State → Served :=
  sized 1 body (fun s =>
    let start := (byteAt body 0).toNat
    if 63 < start then refuse .range 1 s else accept (trackBody start s) s)

/-! ### Scanner Port (R57) -/

/-- The eight counters, in the order of R56's table. -/
def scannerCounters (p : ScannerPort) : List Count16 :=
  [p.lineErrors, p.missed, p.unmatched, p.tooLate, p.sequence, p.truncated, p.incomplete, p.rejected]

/-- The reply body of SCANNER READ (R57). -/
def scannerBody (s : State) : List Byte :=
  let p := s.scanner
  u8 p.reception.code ++ optStrip p.receiving ++ u8 p.received ++ flag p.damaged ++
    u8 p.announces.length ++ counted8 (p.announces.take 16) (fun n => u16 n.toNat) ++
    counters (scannerCounters p)

/-- SCANNER READ changes no state (R57). -/
def serveScannerRead (body : List Byte) : State → Served :=
  sized 0 body (fun s => accept (scannerBody s) s)

/-! ### Grading Engine (R80) -/

/-- An all-ones value of 4 bytes: an absent value of a field whose range holds 0 (R195). -/
def absent32 : Nat := 0xFFFFFFFF

/-- The result of an evaluation at its full size: kind, class, grade, head offset, raw length, merit and
reason; all 0 when there has been none (R66, R80, R195). DESIGN CHOICE: the kind byte is the plan kind
of 13.3, GRADED 1 and PASS 3, and the parts stand in this order (notes/assumptions/28.md). A part that
a result lacks is all ones where 0 is in its range (class, head offset, merit), else 0 (R195). -/
def resultBytes : Option CutPlan → List Byte
  | none => List.replicate 12 0
  | some (.graded c g h r m) => u8 1 ++ u8 c ++ u8 g ++ u16 h ++ u16 r ++ u32 m ++ u8 0
  | some (.default r c h l) => u8 2 ++ u8 c ++ u8 0 ++ u16 h ++ u16 l ++ u32 absent32 ++ u8 r.code
  | some (.pass r) =>
    u8 3 ++ u8 255 ++ u8 0 ++ u16 0xFFFF ++ u16 0 ++ u32 absent32 ++ u8 r.code

/-- The last evaluation: strip number, windows examined, result (R80). -/
def lastEvaluationBytes : Option LastEvaluation → List Byte
  | none => u16 0 ++ u16 0 ++ resultBytes none
  | some l => u16 l.strip.toNat ++ u16 l.windows ++ resultBytes (some l.result)

/-- The reply body of GRADING READ (R80). -/
def gradingBody (s : State) : List Byte :=
  let g := s.grading
  flag g.inFlight.isSome ++ optStrip (g.inFlight.map (·.strip)) ++ u8 g.queue.length ++
    counted8 g.queue (fun n => u16 n.toNat) ++ lastEvaluationBytes g.last ++
    counters [g.completed, g.abandoned, g.withdrawn, g.refused]

/-- GRADING READ changes no state (R80). -/
def serveGradingRead (body : List Byte) : State → Served :=
  sized 0 body (fun s => accept (gradingBody s) s)

/-! ### Saw Port (R91) -/

/-- An outstanding order: strip number and form, CUT 0 or PASS 1 (R91, R195). -/
def Order.bytes (o : Order) : List Byte :=
  u16 o.strip.toNat ++ u8 (match o.form with
    | .cut _ _ => 0
    | .pass => 1)

/-- The last fault, or strip number 0 and code 0 (R91). -/
def sawFaultBytes : Option (StripNo × Byte) → List Byte
  | none => u16 0 ++ u8 0
  | some (n, c) => u16 n.toNat ++ [c]

/-- The reply body of SAW READ (R91). -/
def sawBody (s : State) : List Byte :=
  let w := s.saw
  u8 w.orders.length ++ counted8 (w.orders.take 16) Order.bytes ++ sawFaultBytes w.lastFault ++
    counters [w.lineErrors, w.sent, w.confirmed, w.faults, w.lateReplies, w.strayReplies, w.withdrawn]

/-- SAW READ changes no state (R91). -/
def serveSawRead (body : List Byte) : State → Served := sized 0 body (fun s => accept (sawBody s) s)

/-! ### Head Monitor (R106, R110, R113) -/

/-- A fault detail that may be absent as a whole, 8 bytes (R195). -/
def detailBytes : Option FaultDetail → List Byte
  | none => List.replicate 8 0
  | some d => d.bytes

/-- One head record, settings then state fields, in the order of R93. -/
def headBytes (h : HeadSettings) (r : HeadRecord) : List Byte :=
  encodeFields headForms (headValues h) ++ u8 r.badCount ++ u8 r.verdict.code ++
    u8 (orZero (r.latched.map HeadFault.code)) ++ optStrip r.lastGood ++ detailBytes r.detail ++
    u16 (r.lastLoad.getD 0xFFFF) ++ u16 r.peak ++ checkResultBytes r.checkResult

/-- The head in turn, 1 to 4, or 0 when no moulder head is enabled (R98, R113). -/
def turnCode (s : State) : Nat :=
  match s.moulderTurn with
  | k :: _ => k.val + 1
  | [] => 0

/-- The kind of the conversion in flight; 0xFF when IDLE (R113, R195). -/
def conversionKind (c : Option Conversion) : Nat :=
  match c with
  | some c => c.request.code
  | none => 255

/-- The reply body of HEAD READ (R113). DESIGN CHOICE: the rotation pointer, H1 to H4, is carried as the
head's number, 1 to 4 (notes/assumptions/30.md). -/
def headBody (s : State) : List Byte :=
  let m := s.heads
  allHeads.flatMap (fun n => headBytes (s.headCfg n) m.records[n]) ++
    u8 s.cfg.heads.minSpeed ++ u8 s.cfg.heads.preWarning ++ u8 s.cfg.heads.shutdown ++
    u8 s.cfg.heads.hysteresis ++ flag m.conversion.isSome ++ u8 (conversionKind m.conversion) ++
    u16 m.requests.length ++ u8 (m.rotation.val + 1) ++ u8 (turnCode s) ++
    u8 (m.reading.getD 255) ++ flag m.reading.isNone ++ flag m.preWarning ++ flag m.shutdown ++
    flag m.stale ++ u8 m.check.code ++
    counters [m.completed, m.late, m.withdrawn, m.skipped, m.takeovers]

/-- Each head's peak load since last HEAD READ becomes 0 (R113). -/
def zeroPeaks (s : State) : State :=
  { s with heads.records := s.heads.records.map (fun r => { r with peak := 0 }) }

/-- HEAD READ: the reply is built, then the peaks are zeroed (R113). -/
def serveHeadRead (body : List Byte) : State → Served :=
  sized 0 body (fun s => accept (headBody s) (zeroPeaks s))

/-- Whether a head's latched fault is cleared by HEAD CLEAR (R106). -/
def clearable (s : State) (n : Head) : Bool :=
  s.heads.records[n].verdict == .good || !s.enabled n

/-- The heads that hold a latched fault, by head number. -/
def State.latchedHeads (s : State) : List Head :=
  allHeads.filter (fun n => s.heads.records[n].latched.isSome)

/-- The latched faults of clearable heads are cleared (R106). -/
def clearFaults (s : State) : State :=
  { s with
    heads.records := Vector.ofFn (fun n =>
      if clearable s n then { s.heads.records[n] with latched := none } else s.heads.records[n]) }

/-- The effect of HEAD CLEAR: HEAD leaves the hold-source set when no STOP-policy head is latched
(R106). -/
def headClear (s : State) : State :=
  let s := clearFaults s
  if s.latchedHeads.any (fun n => (s.headCfg n).policy == .stop) then s else removeHold .head s

/-- HEAD CLEAR lists the heads latched after it (R106). -/
def serveHeadClear (body : List Byte) : State → Served :=
  sized 0 body (fun s =>
    let s := headClear s
    accept (counted8 s.latchedHeads (fun n => u8 (n.val + 1))) s)

/-- The enabled heads. -/
def State.enabledHeads (s : State) : List Head := allHeads.filter s.enabled

/-- Every head's check result becomes absent (R110). -/
def clearChecks (s : State) : State :=
  { s with heads.records := s.heads.records.map (fun r => { r with checkResult := none }) }

/-- The effect of an accepted HEAD CHECK (R110). -/
def beginCheck (s : State) : State :=
  let s := clearChecks s
  if s.enabledHeads.isEmpty then endCheck s
  else converterNext (moveCursor 0 (addHold .check { s with heads.check := .running }))

/-- HEAD CHECK, judged in the order of R110. -/
def serveHeadCheck (body : List Byte) : State → Served :=
  sized 0 body (fun s =>
    if s.heads.check = .running then refuse .busy 0 s
    else if s.sup.line ≠ .ready ∧ s.sup.line ≠ .hold then refuse .state 0 s
    else if s.sup.line = .hold ∧ s.sup.holdEffective = false then refuse .state 0 s
    else if !s.track.strips.isEmpty then refuse .state 0 s
    else accept (u8 s.enabledHeads.length) (beginCheck s))

/-! ### Meanings -/

def execStatus (tag : Byte) (body : List Byte) (s : State) : Host.Outcome State Fault Refusal :=
  live s (takeFrame 0x01 tag (serveStatus body))
def execRun (tag : Byte) (body : List Byte) (s : State) : Host.Outcome State Fault Refusal :=
  live s (takeFrame 0x02 tag (serveRun body))
def execStop (tag : Byte) (body : List Byte) (s : State) : Host.Outcome State Fault Refusal :=
  live s (takeFrame 0x03 tag (serveStop body))
def execHold (tag : Byte) (body : List Byte) (s : State) : Host.Outcome State Fault Refusal :=
  live s (takeFrame 0x04 tag (serveHold body))
def execRelease (tag : Byte) (body : List Byte) (s : State) : Host.Outcome State Fault Refusal :=
  live s (takeFrame 0x05 tag (serveRelease body))
def execResume (tag : Byte) (body : List Byte) (s : State) : Host.Outcome State Fault Refusal :=
  live s (takeFrame 0x06 tag (serveResume body))
def execKeepalive (tag : Byte) (body : List Byte) (s : State) : Host.Outcome State Fault Refusal :=
  live s (takeFrame 0x07 tag (serveKeepalive body))
def execAlarmClear (tag : Byte) (body : List Byte) (s : State) : Host.Outcome State Fault Refusal :=
  live s (takeFrame 0x08 tag (serveAlarmClear body))
def execTrackRead (tag : Byte) (body : List Byte) (s : State) : Host.Outcome State Fault Refusal :=
  live s (takeFrame 0x10 tag (serveTrackRead body))
def execScannerRead (tag : Byte) (body : List Byte) (s : State) : Host.Outcome State Fault Refusal :=
  live s (takeFrame 0x11 tag (serveScannerRead body))
def execGradingRead (tag : Byte) (body : List Byte) (s : State) : Host.Outcome State Fault Refusal :=
  live s (takeFrame 0x12 tag (serveGradingRead body))
def execSawRead (tag : Byte) (body : List Byte) (s : State) : Host.Outcome State Fault Refusal :=
  live s (takeFrame 0x13 tag (serveSawRead body))
def execHeadRead (tag : Byte) (body : List Byte) (s : State) : Host.Outcome State Fault Refusal :=
  live s (takeFrame 0x14 tag (serveHeadRead body))
def execHeadClear (tag : Byte) (body : List Byte) (s : State) : Host.Outcome State Fault Refusal :=
  live s (takeFrame 0x15 tag (serveHeadClear body))
def execHeadCheck (tag : Byte) (body : List Byte) (s : State) : Host.Outcome State Fault Refusal :=
  live s (takeFrame 0x16 tag (serveHeadCheck body))

end Sys2Proof.Machine
end

