-- ==== Sys2Proof/Machine/StoreRequests.lean ====
section
/-! DEFINITION. Machine/StoreRequests.lean: the requests of the Host Link and the Configuration Store
(R186, R187, R190, R192, R194), and the completion of a save. -/

namespace Sys2Proof.Machine

/-! ### Host Link (R186, R187) -/

/-- The mask set as three bytes (R186; spec/13, 13.1). -/
def maskBytes (s : State) : List Byte :=
  (List.range 3).map (fun i => s.link.masks.extractLsb' (8 * i) 8)

/-- Bits 15, 22 and 23 of a mask set name no mask (R186; spec/13, 13.1). -/
def maskNamesNone (m : BitVec 24) : Bool := m.getLsbD 15 || m.getLsbD 22 || m.getLsbD 23

/-- NOTICE MASK replies with the mask set as it stood before (R186). -/
def serveNoticeMask (body : List Byte) : State → Served :=
  sized 3 body (fun s =>
    let m := BitVec.ofNat 24 (readLe body)
    if maskNamesNone m then refuse .range 1 s
    else accept (maskBytes s) { s with link.masks := m })

/-- An entry of the notice queue in LINK READ: source kind, index, repeat count (R187). -/
def noticeBytes (e : NoticeEntry) : List Byte :=
  u8 e.source.place ++ u8 e.source.index ++ u8 e.repeats

/-- The reply body of LINK READ (R187). -/
def linkBody (s : State) : List Byte :=
  let k := s.link
  u32 (baudRate k.baud) ++ u8 s.busyWaiting ++ counted8 k.notices noticeBytes ++ maskBytes s ++
    counters [k.errors, k.noise, k.busyRefusals, k.overruns, k.queued, k.coalesced, k.sent]

/-- LINK READ changes no state (R187). -/
def serveLinkRead (body : List Byte) : State → Served :=
  sized 0 body (fun s => accept (linkBody s) s)

/-! ### Reading and writing the configuration (R190) -/

/-- What every CONFIG READ holds beside the section: save state and edited flag (R190), then the last
check result and the two counters, which R191 and R192 add without a place. DESIGN CHOICE: they follow
in this order (notes/assumptions/28.md). -/
def storeBytes (s : State) : List Byte :=
  flag s.store.saving.isSome ++ flag s.store.edited ++ u8 s.store.lastCheck ++
    counters [s.store.saves, s.store.failures]

/-- CONFIG READ (R190). -/
def serveConfigRead (body : List Byte) : State → Served :=
  sized 1 body (fun s =>
    match sectionOf (byteAt body 0).toNat with
    | none => refuse .range 1 s
    | some sec => accept (sec.bytes s.cfg ++ storeBytes s) s)

/-- Whether a write of the whole BAYS section would change a bay in use (R128). -/
def changesBayInUse (s : State) (new : Vector Role 12) : Bool :=
  allBays.any (fun b => s.role b != new[b] && s.bayInUse b)

/-- Why an otherwise good write is refused at the sixth test, if it is (R190). -/
def sixthTest (sec : Section) (new : WorkingConfig) (s : State) : Option Refuse :=
  match sec with
  | .bays => if changesBayInUse s new.bays then some .state else none
  | .template k => if slotInUse s k then some .busy else none
  | _ => none

/-- Every bay whose role or key changes takes its new entry (R128). -/
def setRoles (new : Vector Role 12) (s : State) : State :=
  allBays.foldl (fun s b => setRole b new[b] s) s

/-- A section is replaced in the working configuration, with what its owner does at that moment: new bay
entries (R128), the chute judged again (R125), the monitors' settings (R33, R39). -/
def putSection (sec : Section) (new : WorkingConfig) (s : State) : State :=
  match sec with
  | .bays => setRoles new.bays s
  | .bundling => judgeChute { s with store.working := new }
  | .supervision =>
    let old := s.cfg.supervision
    changeGuard old.guardEnable new.supervision.guardEnable
      (changePeriod old.period new.supervision.period { s with store.working := new })
  | _ => { s with store.working := new }

/-- The check result that an accepted write reports: 0 when the check was not made (R190). -/
def reportedCheck (before after : State) : Nat :=
  if before.sup.line.idle then after.store.lastCheck else 0

/-- An accepted write (R190): the section replaced, the edited flag set, the check made in START and
READY, and the reply. -/
def acceptWrite (sec : Section) (new : WorkingConfig) (clamped replaced : Nat) (s : State) : Served :=
  let s' := checkAfterWrite { putSection sec new s with store.edited := true }
  accept (u8 clamped ++ u8 replaced ++ u8 (reportedCheck s s') ++ lineBytes s') s'

/-- The working configuration that a write of a section gives, with values clamped and characters
substituted (R151, R190). -/
def writtenConfig (sec : Section) (bytes : List Byte) (cfg : WorkingConfig) : WorkingConfig :=
  let forms := sec.forms bytes
  let vs := (clampFields forms (readFields forms bytes)).map
    (fun v => v.substitute cfg.allowed cfg.label.substitute)
  sec.write vs bytes cfg

/-- How many characters of a section's texts are replaced (R151). -/
def replacedIn (sec : Section) (bytes : List Byte) (cfg : WorkingConfig) : Nat :=
  ((readFields (sec.forms bytes) bytes).map (fun v => v.replaced cfg.allowed)).sum

/-- CONFIG WRITE of a section whose number is known, judged in the order of R190 from its second test
on. -/
def writeSection (sec : Section) (bytes : List Byte) (s : State) : Served :=
  let forms := sec.forms bytes
  let vs := readFields forms bytes
  if !sec.fits bytes then refuse .length 0 s
  else if s.store.saving.isSome then refuse .busy 0 s
  else if sec.locked && !s.sup.line.idle then refuse .state 0 s
  else
    match firstRefused 2 forms vs with
    | some i => refuse .range i s
    | none =>
      let new := writtenConfig sec bytes s.cfg
      match sixthTest sec new s with
      | some e => refuse e 0 s
      | none => acceptWrite sec new (countClamped forms vs) (replacedIn sec bytes s.cfg) s

/-- CONFIG WRITE (R190). A body without a section number is refused LENGTH (DESIGN CHOICE,
notes/assumptions/27.md). -/
def serveConfigWrite (body : List Byte) (s : State) : Served :=
  match body with
  | [] => refuse .length 0 s
  | number :: bytes =>
    match sectionOf number.toNat with
    | none => refuse .range 1 s
    | some sec => writeSection sec bytes s

/-! ### Saving (R192) -/

/-- SAVE: a copy of the whole working configuration is taken (R192). -/
def serveSave (body : List Byte) : State → Served :=
  sized 0 body (fun s =>
    if s.store.saving.isSome then refuse .busy 0 s
    else accept [] { s with store.saving := some s.cfg, store.edited := false })

/-- The save's completion event: the CRC recomputed from the image read back is compared with the
copy's. With no save in flight this event does not occur (R192; notes/assumptions/4.md, 32.md). -/
def completeSave (readBack : BitVec 16) (s : State) : State :=
  match s.store.saving with
  | none => s
  | some copy =>
    if readBack = copy.imageCrc then
      give .saved
        { s with
          store.image := some copy
          store.saving := none
          store.saves := sat16 s.store.saves }
    else
      give .saveFailed
        { s with
          store.image := none
          store.saving := none
          store.edited := true
          store.failures := sat16 s.store.failures }

/-! ### RESTART (R194) -/

/-- START, READY and FAILSAFE, the states in which RESTART can be accepted (R194). -/
def LineState.restartable : LineState → Bool
  | .start | .ready | .failsafe => true
  | _ => false

/-- Whether a bay is CLOSING or BLOCKED (R194). -/
def awaitsLabel (s : State) (b : Bay) : Bool :=
  (s.sort.bays[b]).state == some .closing || (s.sort.bays[b]).state == some .blocked

/-- Where a RESTART stands once one more has been accepted: a restart that is due already stays due
(R183, R194; notes/assumptions/38.md). -/
def RestartStage.asked : RestartStage → RestartStage
  | .due => .due
  | .none | .pending => .pending

/-- RESTART, judged in the order of R194. -/
def serveRestart (body : List Byte) : State → Served :=
  sized 0 body (fun s =>
    if s.store.saving.isSome then refuse .busy 0 s
    else if !s.sup.line.restartable then refuse .state 0 s
    else if !s.track.strips.isEmpty then refuse .state 0 s
    else if allBays.any (awaitsLabel s) then refuse .state 0 s
    else accept [] { s with store.restart := s.store.restart.asked })

/-! ### Meanings -/

def execNoticeMask (tag : Byte) (body : List Byte) (s : State) : Host.Outcome State Fault Refusal :=
  live s (takeFrame 0x2C tag (serveNoticeMask body))
def execLinkRead (tag : Byte) (body : List Byte) (s : State) : Host.Outcome State Fault Refusal :=
  live s (takeFrame 0x2D tag (serveLinkRead body))
def execConfigRead (tag : Byte) (body : List Byte) (s : State) : Host.Outcome State Fault Refusal :=
  live s (takeFrame 0x30 tag (serveConfigRead body))
def execConfigWrite (tag : Byte) (body : List Byte) (s : State) : Host.Outcome State Fault Refusal :=
  live s (takeFrame 0x31 tag (serveConfigWrite body))
def execSave (tag : Byte) (body : List Byte) (s : State) : Host.Outcome State Fault Refusal :=
  live s (takeFrame 0x32 tag (serveSave body))
def execRestart (tag : Byte) (body : List Byte) (s : State) : Host.Outcome State Fault Refusal :=
  live s (takeFrame 0x33 tag (serveRestart body))
def execSaveCompletion (readBack : BitVec 16) (s : State) : Host.Outcome State Fault Refusal :=
  live s (completeSave readBack)

end Sys2Proof.Machine
end

