-- ==== Sys2Proof/Machine/Link.lean ====
section
/-! DEFINITION. Machine/Link.lean: the Host Link's receiver and transmit side (R180 to R183) and the
receivers of the three field lines (R46, R82, R166). -/

namespace Sys2Proof.Machine

/-! ### Dispatch of a request (R182) -/

/-- A request handed to its owner by its kind; a kind that names no request is refused UNKNOWN (R182;
spec/13, 13.1). -/
def serveKind (kind : Byte) (body : List Byte) : State → Served :=
  match kind.toNat with
  | 0x01 => serveStatus body
  | 0x02 => serveRun body
  | 0x03 => serveStop body
  | 0x04 => serveHold body
  | 0x05 => serveRelease body
  | 0x06 => serveResume body
  | 0x07 => serveKeepalive body
  | 0x08 => serveAlarmClear body
  | 0x10 => serveTrackRead body
  | 0x11 => serveScannerRead body
  | 0x12 => serveGradingRead body
  | 0x13 => serveSawRead body
  | 0x14 => serveHeadRead body
  | 0x15 => serveHeadClear body
  | 0x16 => serveHeadCheck body
  | 0x18 => serveBayRead body
  | 0x19 => serveBaySet body
  | 0x1A => serveBinEmptied body
  | 0x1C => serveBundleRead body
  | 0x1D => serveBayClose body
  | 0x1E => serveLotSet body
  | 0x1F => serveNextNumber body
  | 0x20 => serveTemplateWrite body
  | 0x21 => serveLabelRead body
  | 0x24 => servePrinterOffline body
  | 0x25 => servePrinterOnline body
  | 0x26 => serveReprint body
  | 0x27 => serveReleaseUnlabelled body
  | 0x28 => servePrinterRead body
  | 0x2C => serveNoticeMask body
  | 0x2D => serveLinkRead body
  | 0x30 => serveConfigRead body
  | 0x31 => serveConfigWrite body
  | 0x32 => serveSave body
  | 0x33 => serveRestart body
  | _ => refuse .unknown 0

/-! ### The host line's receiver (R180) -/

/-- A frame of the host line is discarded or abandoned: a link error, and the receiver hunts (R180). -/
def hostError (s : State) : State :=
  { s with link.errors := sat16 s.link.errors, link.rx := { s.link.rx with stage := .hunt } }

/-- Whether more than n quarter-milliseconds have passed since a receiver's last byte of a partial
frame. -/
def Receiver.gap (r : Receiver) (now n : Nat) : Bool := r.stage != .hunt && r.lastByte + n < now

/-- The partial host frame is abandoned when more than 20 ms have passed since its last byte (R180). -/
def abandonHost (s : State) : State := if s.link.rx.gap s.now (ms 20) then hostError s else s

/-- The receiver of the host line takes a stage. -/
def hostStage (st : RxStage) (s : State) : State := { s with link.rx := { s.link.rx with stage := st } }

/-- The check byte of a host frame: a good frame is taken as a request, a bad one discarded (R180,
R181). -/
def hostCheck (len : Nat) (kept : List Byte) (b : Byte) (s : State) : State :=
  if crc8 (u8 len ++ kept) = b then
    match kept with
    | kind :: tag :: body => takeFrame kind tag (serveKind kind body) s
    | _ => hostError s
  else hostError s

/-- A byte kept of a host frame (R180). -/
def hostCollect (len : Nat) (kept : List Byte) (s : State) : State :=
  if kept.length < len then hostStage (.collect len kept) s else hostStage (.check len kept) s

/-- A byte judged in the state the host line's receiver holds (R180). -/
def judgeHostByte (b : Byte) (s : State) : State :=
  match s.link.rx.stage with
  | .hunt =>
    if b = startByte then hostStage .length s
    else { s with link.noise := sat16 s.link.noise }
  | .length =>
    if 2 ≤ b.toNat ∧ b.toNat ≤ 252 then hostStage (.collect b.toNat []) s else hostError s
  | .collect len kept => hostCollect len (kept ++ [b]) s
  | .check len kept => hostCheck len kept b s

/-- A byte arrives on the host line: a partial frame kept too long is abandoned first (R180). -/
def hostByte (b : Byte) (s : State) : State :=
  let s := judgeHostByte b (abandonHost s)
  { s with link.rx := { s.link.rx with lastByte := s.now } }

/-! ### The field lines' receivers (R46, R82, R166) -/

/-- The receiver of a field line. -/
def State.fieldRx (s : State) : FieldLine → Receiver
  | .scanner => s.scanner.rx
  | .saw => s.saw.rx
  | .printer => s.printer.rx

/-- The receiver of a field line is set. -/
def setFieldRx (line : FieldLine) (r : Receiver) (s : State) : State :=
  match line with
  | .scanner => { s with scanner.rx := r }
  | .saw => { s with saw.rx := r }
  | .printer => { s with printer.rx := r }

/-- The receiver of a field line takes a stage. -/
def fieldStage (line : FieldLine) (st : RxStage) (s : State) : State :=
  setFieldRx line { s.fieldRx line with stage := st } s

/-- A scan being received is marked damaged by a discarded frame (R46). -/
def damageScan (s : State) : State :=
  if s.scanner.reception = .receiving then { s with scanner.damaged := true } else s

/-- A line error: the frame is discarded, the line's counter rises, its notice source is given LINE, and
the receiver hunts (R46, R82, R166). -/
def lineError (line : FieldLine) (s : State) : State :=
  let s := fieldStage line .hunt s
  match line with
  | .scanner =>
    scannerEvent .scannerLine
      (damageScan { s with scanner.lineErrors := sat16 s.scanner.lineErrors })
  | .saw => give .sawLine { s with saw.lineErrors := sat16 s.saw.lineErrors }
  | .printer => give .printerLine { s with printer.lineErrors := sat16 s.printer.lineErrors }

/-- The partial frame of a field line is abandoned when more than 2 ms have passed since its last byte
(R46, R82, R166). -/
def abandonField (line : FieldLine) (s : State) : State :=
  if (s.fieldRx line).gap s.now (ms 2) then lineError line s else s

/-- A 16-bit value of a message, little-endian (R195). -/
def word16 (lo hi : Byte) : BitVec 16 := hi ++ lo

/-- A 32-bit value of a message, little-endian (R195). -/
def word32 (a b c d : Byte) : BitVec 32 := (d ++ c) ++ (b ++ a)

/-- A whole message of the scanner, by kind and body; none when the length does not fit the kind or the
kind is none the part takes from the scanner (R46; spec/13, 13.5). -/
def scannerMessage (kind : Byte) (body : List Byte) : Option (State → State) :=
  match kind.toNat, body with
  | 2, [a, b] => some (takeStart (word16 a b))
  | 3, [k, p0, p1, e0, e1, v] =>
    some (takeDefect
      { kind := k.toNat, position := (word16 p0 p1).toNat, extent := (word16 e0 e1).toNat
        severity := v.toNat })
  | 4, [a, b, c] => some (takeEnd (word16 a b) c)
  | _, _ => none

/-- A whole message of the saw (R82; spec/13, 13.5). -/
def sawMessage (kind : Byte) (body : List Byte) : Option (State → State) :=
  match kind.toNat, body with
  | 0x13, [a, b] => some (takeDone (word16 a b))
  | 0x14, [a, b, c] => some (takeSawFault (word16 a b) c)
  | _, _ => none

/-- A whole message of the printer (R166; spec/13, 13.5). -/
def printerMessage (kind : Byte) (body : List Byte) : Option (State → State) :=
  match kind.toNat, body with
  | 0x21, [] => some takeReady
  | 0x23, [a, b, c, d] => some (takePrinted (word32 a b c d))
  | 0x24, [a, b, c, d] => some (takeApplied (word32 a b c d))
  | 0x25, [a, b, c, d, e] => some (takePrinterFault (word32 a b c d) e)
  | _, _ => none

/-- A whole message of a field line (spec/13, 13.5). -/
def fieldMessage (line : FieldLine) (kind : Byte) (body : List Byte) : Option (State → State) :=
  match line with
  | .scanner => scannerMessage kind body
  | .saw => sawMessage kind body
  | .printer => printerMessage kind body

/-- The check byte of a field-line frame: a good frame of a fitting kind and length is taken, any other
discarded (R46, R82, R166). -/
def fieldCheck (line : FieldLine) (len : Nat) (kept : List Byte) (b : Byte) (s : State) : State :=
  if crc8 (u8 len ++ kept) = b then
    match kept with
    | kind :: body =>
      match fieldMessage line kind body with
      | some take => take s
      | none => lineError line s
    | [] => lineError line s
  else lineError line s

/-- A byte judged in the state a field line's receiver holds. A byte other than the start byte between
frames belongs to no frame and is ignored, and a length of 0 fits no kind (DESIGN CHOICE,
notes/assumptions/25.md). -/
def judgeFieldByte (line : FieldLine) (b : Byte) (s : State) : State :=
  match (s.fieldRx line).stage with
  | .hunt => if b = startByte then fieldStage line .length s else s
  | .length => if b = 0 then lineError line s else fieldStage line (.collect b.toNat []) s
  | .collect len kept =>
    let kept := kept ++ [b]
    fieldStage line (if kept.length < len then .collect len kept else .check len kept) s
  | .check len kept => fieldCheck line len kept b s

/-- A byte arrives on a field line: a partial frame kept too long is abandoned first (R46). -/
def fieldByte (line : FieldLine) (b : Byte) (s : State) : State :=
  let s := judgeFieldByte line b (abandonField line s)
  setFieldRx line { s.fieldRx line with lastByte := s.now } s

/-! ### The transmit side (R183) -/

/-- Whether a reply is the ACCEPTED reply to RESTART (R194). -/
def Reply.isRestart (r : Reply) : Bool :=
  r.inHand && r.kind == 0x33 && match r.answer with
    | .accepted _ => true
    | .refused _ _ => false

/-- The oldest reply's last byte has gone: it leaves the reply list; after RESTART's the restart is due
and nothing more is sent (R181, R183, R194). -/
def replyGone (s : State) : State :=
  match s.link.replies with
  | [] => { s with link.tx := .free }
  | r :: rest =>
    let s := { s with link.tx := .free, link.replies := rest }
    if r.isRestart && s.store.restart == .pending then { s with store.restart := .due }
    else sendNext s

/-- A frame's last byte has gone and the line becomes free (R183). With no frame in transmission this
event does not occur (notes/assumptions/4.md). -/
def frameGone (s : State) : State :=
  match s.link.tx with
  | .free => s
  | .reply _ => replyGone s
  | .notice _ => sendNext { s with link.tx := .free }

/-! ### Meanings -/

/-- A good frame whose kind names no request is refused UNKNOWN when it is taken; it is judged against
the request in hand like any other (R181, R182). -/
def execUnknownRequest (kind tag : Byte) (body : List Byte) (s : State) :
    Host.Outcome State Fault Refusal :=
  live s (takeFrame kind tag (serveKind kind body))

def execHostFrameDiscarded (s : State) : Host.Outcome State Fault Refusal := live s hostError

/-- More than 20 ms have passed in a partial frame (R180). Before that this event does not occur
(notes/assumptions/3.md). -/
def execHostGapTimeout (s : State) : Host.Outcome State Fault Refusal := live s abandonHost

def execTransmitComplete (s : State) : Host.Outcome State Fault Refusal := live s frameGone
def execHostByteArrival (byte : Byte) (s : State) : Host.Outcome State Fault Refusal :=
  live s (hostByte byte)
def execFieldByteArrival (line : FieldLine) (byte : Byte) (s : State) :
    Host.Outcome State Fault Refusal :=
  live s (fieldByte line byte)
def execFieldFrameDiscarded (line : FieldLine) (s : State) : Host.Outcome State Fault Refusal :=
  live s (lineError line)

/-- More than 2 ms have passed in a partial frame (R46). Before that this event does not occur
(notes/assumptions/3.md). -/
def execFieldGapTimeout (line : FieldLine) (s : State) : Host.Outcome State Fault Refusal :=
  live s (abandonField line)

end Sys2Proof.Machine
end

