-- ==== Sys2Proof/Machine/Start.lean ====
section
/-! DEFINITION. Machine/Start.lean: start-up, hardware reset, the restart that follows an accepted RESTART,
and the loss of power (R192 to R194), with each block's reset state (R22, R45, R58, R81, R92, R114, R131,
R146, R165, R178, R188). -/

namespace Sys2Proof.Machine

/-! ### The blocks' reset states -/

/-- The Track Unit after either reset; the levels at its inputs are the outside world's (R22). -/
def resetTrack (cfg : WorkingConfig) (s : State) : TrackUnit :=
  { TrackUnit.reset with
    encA := s.track.encA
    encB := s.track.encB
    countsInForce := cfg.line.countsPerMm
    intervalEnd := s.now + ms 100
    eyeIn := { EyeFilter.reset with input := s.track.eyeIn.input }
    eyeCk := { EyeFilter.reset with input := s.track.eyeCk.input } }

/-- The Line Supervisor after either reset (R45). -/
def resetSupervisor (cause : ResetCause) (fsel : FailSafeMode) (s : State) : Supervisor :=
  { Supervisor.reset with
    failSafe := fsel, resetCause := cause, alarms := [], guardHigh := s.sup.guardHigh }

/-- The Grading Engine after either reset (R81). Serials are never given twice, so that the completion of
an evaluation in flight finds itself abandoned. -/
def resetGrading (s : State) : GradingEngine :=
  { GradingEngine.reset with nextEvaluation := s.grading.nextEvaluation }

/-- The Head Monitor after either reset (R114). Serials are never given twice, so that the completion of
a conversion in flight finds itself abandoned. -/
def resetHeads (s : State) : HeadMonitor :=
  { HeadMonitor.reset with
    conversion := none, nextConversion := s.heads.nextConversion
    tempSince := s.now, nextTemp := s.now + ms 500 }

/-- A bay's entry after a reset, with the occupancy it keeps (R131). -/
def resetBay (role : Role) (occupancy : Count16) : BayEntry :=
  { state := if role.isGraded then some .opened else none
    occupancy := if role.isBin then occupancy else 0
    inTransit := 0
    overGate := 0 }

/-- The Sort Unit after hardware reset (R131). -/
def resetSort (cfg : WorkingConfig) : SortUnit :=
  { SortUnit.reset with bays := cfg.bays.map (fun role => resetBay role 0) }

/-- The Sort Unit after restart: bin occupancies and the chute's are kept (R131, R194). -/
def restartSort (cfg : WorkingConfig) (s : State) : SortUnit :=
  { SortUnit.reset with
    bays := Vector.ofFn (fun b => resetBay cfg.bays[b] (s.sort.bays[b]).occupancy)
    chuteOccupancy := s.sort.chuteOccupancy }

/-- The Bundle Unit after hardware reset: a fresh bundle for each graded bay (R146). -/
def resetBundles (cfg : WorkingConfig) : BundleUnit :=
  { BundleUnit.reset with bundles := cfg.bays.map Role.bundle }

/-- The Bundle Unit after restart: the next bundle number and the texts are kept (R146, R194). -/
def restartBundles (cfg : WorkingConfig) (s : State) : BundleUnit :=
  { resetBundles cfg with
    nextNumber := s.bundles.nextNumber, lot := s.bundles.lot, date := s.bundles.date }

/-- The Host Link after hardware reset (R188). -/
def resetLink (baud : Baud) : HostLink :=
  { rx := {}, baud := baud, replies := [], tx := .free, notices := [], masks := 0, errors := 0
    noise := 0, busyRefusals := 0, overruns := 0, queued := 0, coalesced := 0, sent := 0 }

/-- The Host Link after restart: the masks, the counters and the baud rate are kept (R188, R194). -/
def restartLink (k : HostLink) : HostLink :=
  { k with rx := {}, replies := [], tx := .free, notices := [] }

/-- The Configuration Store at the beginning of start-up, with the working configuration loaded (R193). -/
def resetStore (image : Option WorkingConfig) : ConfigStore :=
  { ConfigStore.reset with working := image.getD factoryDefaults, image := image, lastCheck := 0 }

/-- The Configuration Store at a restart: the image and both counters are kept (R194). -/
def restartStore (st : ConfigStore) : ConfigStore :=
  { resetStore st.image with saves := st.saves, failures := st.failures }

/-! ### Start-up (R193) -/

/-- Step 6's events: LOADED when the image's CRC matched; alarm CONFIG and DEFAULTS when it did not
(R193). -/
def reportLoad (s : State) : State :=
  if s.store.image.isSome then give .loaded s else give .defaults (latchAlarm .config s)

/-- Step 7: the check is made, and a STATE event is given also when the state stays START (R193). -/
def startCheck (s : State) : State :=
  let r := checkResult s.cfg
  let s := { s with store.lastCheck := r }
  if r = 0 then changeLine .ready s else reportLine s

/-- The end of start-up: the events, the check, and the first TEMPERATURE request (R96, R193). -/
def finishStart (s : State) : State := placeRequests [.temperature] (startCheck (reportLoad s))

/-- The image the part finds at a hardware reset: one taken while SAVING leaves it mismatching (R192). -/
def imageLeft (st : ConfigStore) : Option WorkingConfig := if st.saving.isSome then none else st.image

/-- Hardware reset: steps 1 to 7 of R193. -/
def hardwareReset (cause : ResetCause) (baud : Baud) (fsel : FailSafeMode) (s : State) : State :=
  let st := resetStore (imageLeft s.store)
  let cfg := st.working
  finishStart
    { s with
      powered := true
      track := resetTrack cfg s
      sup := resetSupervisor cause fsel s
      scanner := .reset
      grading := resetGrading s
      saw := .reset
      heads := resetHeads s
      sort := resetSort cfg
      bundles := resetBundles cfg
      labels := .reset
      printer := .reset
      link := resetLink baud
      store := st }

/-- The restart: steps 3 to 7 of R193 with cause RESTART, keeping what R194 lists. A chute that stands at
or above its reloaded capacity adds BIN again (R131). -/
def restartNow (s : State) : State :=
  let st := restartStore s.store
  let cfg := st.working
  finishStart (judgeChute
    { s with
      track := resetTrack cfg s
      sup := resetSupervisor .restart s.sup.failSafe s
      scanner := .reset
      grading := resetGrading s
      saw := .reset
      heads := resetHeads s
      sort := restartSort cfg s
      bundles := restartBundles cfg s
      labels := .reset
      printer := .reset
      link := restartLink s.link
      store := st })

/-- The restart is made once the RESTART reply's last byte has gone; before that this event does not
occur (R194; notes/assumptions/38.md). -/
def restartWhenDue (s : State) : State := if s.store.restart = .due then restartNow s else s

/-! ### Meanings -/

/-- What made a hardware reset, as the reset cause recorded (R193, step 1). -/
def causeOf : ResetSource → ResetCause
  | .power => .power
  | .pin => .pin

/-- RESET driven low does nothing to a part without supply; the supply coming up starts it. -/
def execHardwareReset (source : ResetSource) (baud : Baud) (fsel : FailSafeMode) (s : State) :
    Host.Outcome State Fault Refusal :=
  if s.powered || source == .power then
    .next (settle (hardwareReset (causeOf source) baud fsel s))
  else .next s

def execRestartExecute (s : State) : Host.Outcome State Fault Refusal := live s restartWhenDue

/-- The supply fails: a save in flight leaves the stored image mismatching (R192). -/
def execLossOfPower (s : State) : Host.Outcome State Fault Refusal :=
  .next { s with powered := false, store.image := imageLeft s.store, store.saving := none }

end Sys2Proof.Machine
end

