-- ==== Sys2Proof/Machine/Dispatch.lean ====
section
/-! DEFINITION. Machine/Dispatch.lean: the meaning of each command, one arm per row of
spec/opcode_table.json. -/

namespace Sys2Proof.Machine

def exec (i : Instr) (s : State) : Host.Outcome State Fault Refusal :=
  match i with
  -- wires and clocks
  | .encoderCount input => Sys2Proof.Machine.execEncoderCount input s
  | .eyeInputChange eye blocked => Sys2Proof.Machine.execEyeInputChange eye blocked s
  | .speedIntervalEnd => Sys2Proof.Machine.execSpeedIntervalEnd s
  | .keepaliveWindowExpiry => Sys2Proof.Machine.execKeepaliveWindowExpiry s
  | .guardInputChange high => Sys2Proof.Machine.execGuardInputChange high s
  | .guardEdgeAccepted => Sys2Proof.Machine.execGuardEdgeAccepted s
  | .guardWindowExpiry => Sys2Proof.Machine.execGuardWindowExpiry s
  | .lampABlink => Sys2Proof.Machine.execLampABlink s
  | .lampGDim => Sys2Proof.Machine.execLampGDim s
  -- scanner line
  | .scannerStart strip => Sys2Proof.Machine.execScannerStart strip s
  | .defect kind position extent severity => Sys2Proof.Machine.execDefect kind position extent severity s
  | .scannerEnd strip count => Sys2Proof.Machine.execScannerEnd strip count s
  -- any field line
  | .fieldFrameDiscarded line => Sys2Proof.Machine.execFieldFrameDiscarded line s
  | .fieldGapTimeout line => Sys2Proof.Machine.execFieldGapTimeout line s
  -- engines and the saw line
  | .evaluationCompletion evaluation => Sys2Proof.Machine.execEvaluationCompletion evaluation s
  | .sawDone strip => Sys2Proof.Machine.execSawDone strip s
  | .sawFault strip code => Sys2Proof.Machine.execSawFault strip code s
  | .conversionCompletion result => Sys2Proof.Machine.execConversionCompletion result s
  | .temperatureTimer => Sys2Proof.Machine.execTemperatureTimer s
  | .temperatureStale => Sys2Proof.Machine.execTemperatureStale s
  -- the steps of a composition
  | .stepText => Sys2Proof.Machine.execText s
  | .stepLoad => Sys2Proof.Machine.execLoad s
  | .stepDigits => Sys2Proof.Machine.execDigits s
  | .stepForce => Sys2Proof.Machine.execForce s
  | .stepMark => Sys2Proof.Machine.execMark s
  | .stepPut => Sys2Proof.Machine.execPut s
  | .stepFill => Sys2Proof.Machine.execFill s
  | .stepSetchar => Sys2Proof.Machine.execSetchar s
  | .stepCopy => Sys2Proof.Machine.execCopy s
  | .stepBlankzero => Sys2Proof.Machine.execBlankzero s
  | .stepLine => Sys2Proof.Machine.execLine s
  | .stepEnd => Sys2Proof.Machine.execEnd s
  -- printer line
  | .printerReady => Sys2Proof.Machine.execPrinterReady s
  | .printed bundle => Sys2Proof.Machine.execPrinted bundle s
  | .applied bundle => Sys2Proof.Machine.execApplied bundle s
  | .printerFault bundle code => Sys2Proof.Machine.execPrinterFault bundle code s
  | .applyTimeout => Sys2Proof.Machine.execApplyTimeout s
  -- requests of the host
  | .status tag body => Sys2Proof.Machine.execStatus tag body s
  | .run tag body => Sys2Proof.Machine.execRun tag body s
  | .stop tag body => Sys2Proof.Machine.execStop tag body s
  | .hold tag body => Sys2Proof.Machine.execHold tag body s
  | .release tag body => Sys2Proof.Machine.execRelease tag body s
  | .resume tag body => Sys2Proof.Machine.execResume tag body s
  | .keepalive tag body => Sys2Proof.Machine.execKeepalive tag body s
  | .alarmClear tag body => Sys2Proof.Machine.execAlarmClear tag body s
  | .trackRead tag body => Sys2Proof.Machine.execTrackRead tag body s
  | .scannerRead tag body => Sys2Proof.Machine.execScannerRead tag body s
  | .gradingRead tag body => Sys2Proof.Machine.execGradingRead tag body s
  | .sawRead tag body => Sys2Proof.Machine.execSawRead tag body s
  | .headRead tag body => Sys2Proof.Machine.execHeadRead tag body s
  | .headClear tag body => Sys2Proof.Machine.execHeadClear tag body s
  | .headCheck tag body => Sys2Proof.Machine.execHeadCheck tag body s
  | .bayRead tag body => Sys2Proof.Machine.execBayRead tag body s
  | .baySet tag body => Sys2Proof.Machine.execBaySet tag body s
  | .binEmptied tag body => Sys2Proof.Machine.execBinEmptied tag body s
  | .bundleRead tag body => Sys2Proof.Machine.execBundleRead tag body s
  | .bayClose tag body => Sys2Proof.Machine.execBayClose tag body s
  | .lotSet tag body => Sys2Proof.Machine.execLotSet tag body s
  | .nextNumber tag body => Sys2Proof.Machine.execNextNumber tag body s
  | .templateWrite tag body => Sys2Proof.Machine.execTemplateWrite tag body s
  | .labelRead tag body => Sys2Proof.Machine.execLabelRead tag body s
  | .printerOffline tag body => Sys2Proof.Machine.execPrinterOffline tag body s
  | .printerOnline tag body => Sys2Proof.Machine.execPrinterOnline tag body s
  | .reprint tag body => Sys2Proof.Machine.execReprint tag body s
  | .releaseUnlabelled tag body => Sys2Proof.Machine.execReleaseUnlabelled tag body s
  | .printerRead tag body => Sys2Proof.Machine.execPrinterRead tag body s
  | .noticeMask tag body => Sys2Proof.Machine.execNoticeMask tag body s
  | .linkRead tag body => Sys2Proof.Machine.execLinkRead tag body s
  | .configRead tag body => Sys2Proof.Machine.execConfigRead tag body s
  | .configWrite tag body => Sys2Proof.Machine.execConfigWrite tag body s
  | .save tag body => Sys2Proof.Machine.execSave tag body s
  -- the store, restarts and resets
  | .saveCompletion readBack => Sys2Proof.Machine.execSaveCompletion readBack s
  | .restart tag body => Sys2Proof.Machine.execRestart tag body s
  | .restartExecute => Sys2Proof.Machine.execRestartExecute s
  | .hardwareReset source baud fsel => Sys2Proof.Machine.execHardwareReset source baud fsel s
  -- the host line and the rest
  | .unknownRequest kind tag body => Sys2Proof.Machine.execUnknownRequest kind tag body s
  | .hostFrameDiscarded => Sys2Proof.Machine.execHostFrameDiscarded s
  | .hostGapTimeout => Sys2Proof.Machine.execHostGapTimeout s
  | .transmitComplete => Sys2Proof.Machine.execTransmitComplete s
  | .hostByteArrival byte => Sys2Proof.Machine.execHostByteArrival byte s
  | .fieldByteArrival line byte => Sys2Proof.Machine.execFieldByteArrival line byte s
  | .overrun => Sys2Proof.Machine.execOverrun s
  | .badstep => Sys2Proof.Machine.execBadstep s
  | .lossOfPower => Sys2Proof.Machine.execLossOfPower s

end Sys2Proof.Machine
end

