-- ==== Sys2Proof/Machine/Step.lean ====
section
/-! DEFINITION. Machine/Step.lean: one step of the part: the command at the front of the queue, or, on an
empty queue, what the part's own clock brings (notes/assumptions/2.md). -/

namespace Sys2Proof.Machine

/-- Whether a moment has come. -/
def due (s : State) (t : Option Nat) : Bool :=
  match t with
  | some t => t ≤ s.now
  | none => false

/-- The moment an accepted edge of GUARD completes its 1 ms (R39). -/
def guardEdgeMoment (s : State) : Option Nat :=
  if s.sup.guardHigh then s.sup.guardHighSince.map (· + ms 1) else none

/-- The moment the guard window expires (R39). -/
def guardMoment (s : State) : Option Nat :=
  match s.sup.guard with
  | .watching t => some t
  | _ => none

/-- The moment the apply timer expires with a label in flight (R172). -/
def applyMoment (s : State) : Option Nat :=
  if s.labelInFlight.isSome then s.printer.applyExpiry else none

/-- The moment temperature becomes stale (R96). -/
def staleMoment (s : State) : Option Nat :=
  if s.heads.stale then none else some (s.heads.tempSince + ms 2000)

/-- The events of the part's own clock, each with whether its moment has come. -/
def clockEvents (s : State) : List (Bool × Instr) :=
  [ (s.store.restart == .due, .restartExecute),
    (due s (some s.track.intervalEnd), .speedIntervalEnd),
    (due s (guardEdgeMoment s), .guardEdgeAccepted),
    (due s (guardMoment s), .guardWindowExpiry),
    (due s s.sup.window.expiry, .keepaliveWindowExpiry),
    (due s (applyMoment s), .applyTimeout),
    (due s (staleMoment s), .temperatureStale),
    (due s (some s.heads.nextTemp), .temperatureTimer),
    (s.link.rx.gap s.now (ms 20), .hostGapTimeout),
    (s.scanner.rx.gap s.now (ms 2), .fieldGapTimeout .scanner),
    (s.saw.rx.gap s.now (ms 2), .fieldGapTimeout .saw),
    (s.printer.rx.gap s.now (ms 2), .fieldGapTimeout .printer),
    (due s (s.sup.lampA.map (·.ends)), .lampABlink),
    (due s (s.sup.lampG.map (·.ends)), .lampGDim) ]

/-- The first event of the clock whose moment has come, while the part has supply. -/
def dueEvent (s : State) : Option Instr :=
  if s.powered then ((clockEvents s).find? (·.1)).map (·.2) else none

/-- The step on an empty queue: a due event of the clock, or a quarter-millisecond passes. -/
def idleStep (s : State) : Host.Outcome State Fault Refusal :=
  match dueEvent s with
  | some c => exec c s
  | none => .next { s with now := s.now + 1 }

/-- One step: the command at the front of the queue, with the queue's rest. -/
def step (s : State) : Host.Outcome State Fault Refusal :=
  match s.pending with
  | c :: rest => exec c { s with pending := rest }
  | [] => idleStep s

/-- The command that a table word spells, put at the front of the queue. -/
def State.withFetchWord (s : State) (nbits w : Nat) : State :=
  match decodeTableWord nbits w with
  | some c => { s with pending := c :: s.pending }
  | none => s

end Sys2Proof.Machine
end

