-- ==== Sys2Proof/Safety.lean ====
section
/-! DEFINITION. Safety.lean: what the spec promises of every state of a run, as invariants of one state,
and the words the statements use for how a command ends. -/

namespace Sys2Proof.Machine

/-! ### Invariants -/

/-- RUN holds an empty hold-source set (R28), and in HOLD at least one source is present (R23). -/
def HoldsMatchLine (s : State) : Prop :=
  (s.sup.line = .run → s.sup.holds = []) ∧ (s.sup.line = .hold → s.sup.holds ≠ [])

/-- The keep-alive monitor has no window outside RUN, HOLD and STOPPING (R33), and the guard monitor is
inactive in START and READY (R39). -/
def MonitorsMatchLine (s : State) : Prop :=
  (s.sup.line.keepAliveActive = false → s.sup.window = .none) ∧
    (s.sup.line.guardActive = false → s.sup.guard = .inactive)

/-- Hold effective holds exactly while the line state is HOLD and the track is empty (R27). -/
def HoldEffectiveExact (s : State) : Prop :=
  s.sup.holdEffective = true ↔ s.sup.line = .hold ∧ s.track.strips = []

/-- What every state of a run keeps about the line state. -/
def LineInv (s : State) : Prop := HoldsMatchLine s ∧ MonitorsMatchLine s ∧ HoldEffectiveExact s

/-- Admitted plus phantom equals records in the track plus bundled plus regrade plus mixed plus reject
plus lost, modulo 2^32 (R20). The model's serials tell the records apart. -/
def TrackAccounts (s : State) : Prop :=
  (s.track.strips.map (·.serial)).Nodup ∧
    (∀ r ∈ s.track.strips, r.serial < s.track.nextSerial) ∧
    s.track.stats.admitted + s.track.stats.phantom =
      BitVec.ofNat 32 s.track.strips.length + s.track.stats.bundled + s.track.stats.regrade +
        s.track.stats.mixed + s.track.stats.reject + s.track.stats.lost

/-- The strip track holds at most 64 records, and no two of them carry the same nonzero strip number
(R10); the next strip number is not 0 (R5). -/
def TrackNumbers (s : State) : Prop :=
  s.track.strips.length ≤ 64 ∧
    ((s.track.strips.map (·.number)).filter (· != 0)).Nodup ∧ s.track.nextNumber ≠ 0

/-- The reply list holds at most one reply to a request in hand and at most 4 BUSY refusals (R181), and
the notice queue at most one entry per notice source (R185). -/
def LinkInv (s : State) : Prop :=
  (s.link.replies.filter (·.inHand)).length ≤ 1 ∧ s.busyWaiting ≤ 4 ∧
    (s.link.notices.map (·.source)).Nodup

/-- The label queue holds at most 4 labels, with room for one more while a composition is in hand (R153,
R163); a label in flight is the head of the queue and its timer runs (R167, R168). -/
def LabelInv (s : State) : Prop :=
  s.labels.queue.length ≤ 4 ∧ (s.labels.composing.isSome → s.labels.queue.length < 4) ∧
    (s.printer.inFlight = true → s.labels.queue ≠ []) ∧
    s.printer.applyExpiry.isSome = s.printer.inFlight

/-- The model's own serials: the conversion and the evaluation in flight have serials below the next to
be given, and so have the records of the track, each its own (notes/assumptions/21.md). -/
def SerialsFresh (s : State) : Prop :=
  (∀ cv, s.heads.conversion = some cv → cv.serial < s.heads.nextConversion) ∧
    (∀ i, s.grading.inFlight = some i → i.serial < s.grading.nextEvaluation) ∧
    (s.track.strips.map (·.serial)).Nodup ∧
    ∀ r ∈ s.track.strips, r.serial < s.track.nextSerial

/-! ### How a command ends -/

/-- A request can be taken: there is supply, and no request is in hand (R181). -/
def Listening (s : State) : Prop := s.powered = true ∧ s.requestInHand = false

/-- The link after events given in order (R185). -/
def linkAfter (ns : List Notice) (s : State) : HostLink := ns.foldl (fun k n => giveLink n k) s.link

/-- The link after a request has been answered and events given: the receiver hunts, and the reply stands
at the tail of the reply list (R180, R181). -/
def linkReplied (kind tag : Byte) (a : Answer) (ns : List Notice) (s : State) : HostLink :=
  { linkAfter ns s with
    rx := { s.link.rx with stage := .hunt }
    replies := s.link.replies ++ [{ kind := kind, tag := tag, answer := a, inHand := true }] }

/-- A state with a request answered and nothing else changed. -/
def answered (kind tag : Byte) (a : Answer) (s : State) : State :=
  { s with link := linkReplied kind tag a [] s }

/-- Commands run one after another, up to the first that does not answer a next state. -/
def runAll : List Instr → State → Host.Outcome State Fault Refusal
  | [], s => .next s
  | c :: cs, s =>
    match exec c s with
    | .next t => runAll cs t
    | o => o

/-- The frame of a field line that a message row is (spec/13, 13.5). -/
def fieldFrameOf : Instr → Option (FieldLine × List Byte)
  | .scannerStart n => some (.scanner, fieldFrame 0x02 (u16 n.toNat))
  | .defect k p e v => some (.scanner, fieldFrame 0x03 (k :: u16 p.toNat ++ u16 e.toNat ++ [v]))
  | .scannerEnd n c => some (.scanner, fieldFrame 0x04 (u16 n.toNat ++ [c]))
  | .sawDone n => some (.saw, fieldFrame 0x13 (u16 n.toNat))
  | .sawFault n c => some (.saw, fieldFrame 0x14 (u16 n.toNat ++ [c]))
  | .printerReady => some (.printer, fieldFrame 0x21 [])
  | .printed b => some (.printer, fieldFrame 0x23 (u32 b.toNat))
  | .applied b => some (.printer, fieldFrame 0x24 (u32 b.toNat))
  | .printerFault b c => some (.printer, fieldFrame 0x25 (u32 b.toNat ++ [c]))
  | _ => none

/-- The track with every record of a strip number changed. -/
def trackWith (n : StripNo) (f : Strip → Strip) (s : State) : TrackUnit :=
  { s.track with strips := s.track.strips.map (fun r => if r.number == n && n != 0 then f r else r) }

/-- The track with one more scanner fault counted (R56). -/
def TrackUnit.scannerFault (t : TrackUnit) : TrackUnit :=
  { t with stats := { t.stats with scannerFaults := t.stats.scannerFaults + 1 } }

/-- The Scanner Port with no frame partly received. -/
def ScannerPort.hunting (p : ScannerPort) : ScannerPort :=
  { p with rx := { p.rx with stage := .hunt } }

/-- The Saw Port with no frame partly received. -/
def SawPort.hunting (p : SawPort) : SawPort := { p with rx := { p.rx with stage := .hunt } }

/-- The Printer Port with no frame partly received. -/
def PrinterPort.hunting (p : PrinterPort) : PrinterPort :=
  { p with rx := { p.rx with stage := .hunt } }

/-- A change of the records of one serial. -/
def stripsWith (id : Nat) (f : Strip → Strip) (s : State) : List Strip :=
  s.track.strips.map (fun q => if q.serial = id then f q else q)

/-- The Line Supervisor after a keep-alive fault (R36). -/
def faultedSupervisor (s : State) : Supervisor :=
  { s.sup with
    line := .failsafe
    holdEffective := false
    stopPending := s.sup.stopPending || s.sup.line == .stopping
    alarms := Alarm.all.filter (fun a => a == .keepAlive || s.sup.alarms.contains a)
    window := .none
    lampG := none }

/-- The window that begins when RUN or RESUME is accepted: LONG, or none with P OFF (R33). -/
def longWindow (s : State) : Window :=
  if s.cfg.supervision.period = .off then .none else .long s.now

/-- LAMP-G's cycle in HOLD and STOPPING: the one that runs, or a new one from its on phase (R42). -/
def dimmed (s : State) : Option LampPhase := some (s.sup.lampG.getD { lit := true, ends := s.now + 5 })

/-- A guard monitor that is active has its window started afresh when the line enters RUN (R39). -/
def guardAtRun (s : State) : GuardMonitor :=
  if s.sup.guard = .inactive then .inactive else .watching (s.now + ms 250)

/-- The events of entering HOLD: STATE, and EFFECTIVE when the track is empty (R23, R27). -/
def holdEvents (s : State) : List Notice :=
  .state .hold :: (if s.track.strips = [] ∧ s.sup.holdEffective = false then [.effective] else [])

/-- A hold source put into the set. -/
def holdsWith (h : HoldSource) (s : State) : List HoldSource :=
  HoldSource.all.filter (fun g => g == h || s.sup.holds.contains g)

/-- An alarm latched into the list. -/
def alarmsWith (a : Alarm) (s : State) : List Alarm :=
  Alarm.all.filter (fun b => b == a || s.sup.alarms.contains b)

/-- The state a completed stop ends in: READY, or START when the check then made fails (R31, R191). -/
def stopEnd (s : State) : LineState := if checkResult s.cfg = 0 then .ready else .start

/-- The Line Supervisor in START or READY: the monitors inactive, GUARD out of the hold-source set (R33,
R39). -/
def idleSupervisor (st : LineState) (s : State) : Supervisor :=
  { s.sup with
    line := st
    holds := s.sup.holds.filter (· != .guard)
    holdEffective := false
    window := .none
    guard := .inactive
    lampG := none }

/-- The Line Supervisor after a completed stop (R31). -/
def stoppedSupervisor (s : State) : Supervisor := idleSupervisor (stopEnd s) s

/-- The outcome of an accepted CONFIG WRITE taken in `s`, where `u` is `s` with the section in its new
state: the edited flag set, the check made in START and READY with its effect on the line state, and the
reply with the counts, the check result and the line state reached (R190, R191). -/
def WriteAnswers (out : Host.Outcome State Fault Refusal) (tag : Byte) (clamped replaced : Nat)
    (s u : State) : Prop :=
  let k : Nat := checkResult u.cfg
  let done (check reported : Nat) (sup : Supervisor) (events : List Notice) :
      Host.Outcome State Fault Refusal :=
    .next (settle
      { u with
        store := { u.store with edited := true, lastCheck := check }
        sup := sup
        link :=
          linkReplied 0x31 tag
            (.accepted
              [BitVec.ofNat 8 clamped, BitVec.ofNat 8 replaced, BitVec.ofNat 8 reported,
                BitVec.ofNat 8 sup.line.code]) events s })
  (s.sup.line ≠ .start → s.sup.line ≠ .ready → out = done s.store.lastCheck 0 s.sup []) ∧
    ((s.sup.line = .start ∧ k ≠ 0 ∨ s.sup.line = .ready ∧ k = 0) → out = done k k s.sup []) ∧
    (s.sup.line = .start → k = 0 →
      out = done 0 0 (idleSupervisor .ready s) [.state .ready]) ∧
    (s.sup.line = .ready → k ≠ 0 → out = done k k (idleSupervisor .start s) [.state .start])

/-! ### The working configuration -/

/-- A name of n characters, all of them admitted by the allowed set (R151, R195). -/
def NameFits (cfg : WorkingConfig) (n : Nat) (t : List Byte) : Prop :=
  t.length = n ∧ ∀ c ∈ t, cfg.allowed.getLsbD c.toNat = true

/-- The key a role carries lies in its range (R115). -/
def RoleFits : Role → Prop
  | .graded k => 1 ≤ k.grade ∧ k.grade ≤ 8 ∧ k.cls ≤ 15
  | _ => True

/-- A head's settings lie in their ranges (R93). -/
def HeadFits (h : HeadSettings) : Prop :=
  h.cutAbsent ≤ 1023 ∧ h.overload ≤ 1023 ∧ h.idleMin ≤ 1023 ∧ h.idleMax ≤ 1023 ∧ 1 ≤ h.confirm ∧
    h.confirm ≤ 4

/-- The LINE settings lie in their field ranges (R189). -/
def LineFits (l : LineSettings) : Prop :=
  1 ≤ l.countsPerMm ∧ l.countsPerMm ≤ 16 ∧ 1 ≤ l.eyeInFilter ∧ l.eyeInFilter ≤ 20 ∧
    1 ≤ l.eyeCkFilter ∧ l.eyeCkFilter ≤ 20 ∧ (∀ p ∈ l.points, p ≤ 65535) ∧ 5 ≤ l.checkTolerance ∧
    l.checkTolerance ≤ 100 ∧ 20 ≤ l.settle ∧ l.settle ≤ 300 ∧ l.width ≤ 255

/-- Every field of the working configuration lies in its field range (R189), as every accepted write
leaves it. -/
def ConfigFits (cfg : WorkingConfig) : Prop :=
  LineFits cfg.line ∧ NameFits cfg 8 cfg.line.lineName ∧
    (200 ≤ cfg.classes.m ∧ cfg.classes.m ≤ 1200 ∧ 50 ≤ cfg.classes.s ∧ cfg.classes.s ≤ 600 ∧
      1 ≤ cfg.classes.n ∧ cfg.classes.n ≤ 16) ∧
    (1 ≤ cfg.grades.count ∧ cfg.grades.count ≤ 8) ∧
    (∀ g ∈ cfg.grades.grades.toList, NameFits cfg 12 g.name ∧
      ∀ l ∈ g.limits.toList, l.sevMax ≤ 255 ∧ l.cntMax ≤ 15) ∧
    (∀ row ∈ cfg.prices.toList, ∀ p ∈ row.toList, p ≤ 9999) ∧
    (cfg.cutting.tg ≤ 20 ∧ cfg.cutting.h0 ≤ 60 ∧ cfg.cutting.t0 ≤ 60 ∧ 5 ≤ cfg.cutting.q ∧
      cfg.cutting.q ≤ 50) ∧
    (∀ h ∈ cfg.heads.head.toList, HeadFits h) ∧
    (cfg.heads.minSpeed ≤ 120 ∧ cfg.heads.preWarning ≤ 255 ∧ cfg.heads.shutdown ≤ 255 ∧
      cfg.heads.hysteresis ≤ 255) ∧
    (∀ r ∈ cfg.bays.toList, RoleFits r) ∧
    (100 ≤ cfg.bundling.target ∧ cfg.bundling.target ≤ 9999 ∧ 1 ≤ cfg.bundling.maxStrips ∧
      cfg.bundling.maxStrips ≤ 250 ∧ (∀ c ∈ cfg.bundling.capacity.toList, 1 ≤ c ∧ c ≤ 999) ∧
      1 ≤ cfg.bundling.chuteCapacity ∧ cfg.bundling.chuteCapacity ≤ 999) ∧
    (2 ≤ cfg.label.applyTimeout ∧ cfg.label.applyTimeout ≤ 60) ∧
    (∀ t ∈ cfg.templates.toList, t.length ≤ 192) ∧ cfg.translate.length = 256

/-- The areas of a bundle follow its counts and its own limits, and an empty bundle has counted nothing
(R134, R135). -/
def AreasFollowCounts (o : OpenBundle) : Prop :=
  (o.committed = 0 → o.dropped = 0 ∧ o.committedArea = 0 ∧ o.droppedArea = 0) ∧
    (0 < o.committed → ∃ l, o.limits = some l ∧
      o.committedArea = o.committed * (l.nominal * l.width) ∧
      o.droppedArea = o.dropped * (l.nominal * l.width))

end Sys2Proof.Machine
end

