-- ==== Sys2Proof/WellFormed.lean ====
section
/-! DEFINITION. WellFormed.lean: which commands the outside world can give. A frame's body holds 0 to 250
bytes (R179), and UNKNOWN_REQUEST stands for a kind that names no request (R182). -/

namespace Sys2Proof

/-- The kinds that name requests (spec/13, 13.1). -/
def requestKinds : List Nat :=
  [0x01, 0x02, 0x03, 0x04, 0x05, 0x06, 0x07, 0x08, 0x10, 0x11, 0x12, 0x13, 0x14, 0x15, 0x16, 0x18,
    0x19, 0x1A, 0x1C, 0x1D, 0x1E, 0x1F, 0x20, 0x21, 0x24, 0x25, 0x26, 0x27, 0x28, 0x2C, 0x2D, 0x30,
    0x31, 0x32, 0x33]

/-- Whether a kind names a request (R182). -/
def namesRequest (kind : Byte) : Bool := requestKinds.contains kind.toNat

/-- The body of a host frame: at most 250 bytes (R179). -/
def bodyFits (body : List Byte) : Bool := body.length ≤ 250

/-- The body of a request; none for a command that is no host frame. -/
def Instr.body : Instr → Option (List Byte)
  | .status _ b | .run _ b | .stop _ b | .hold _ b | .release _ b | .resume _ b | .keepalive _ b
  | .alarmClear _ b | .trackRead _ b | .scannerRead _ b | .gradingRead _ b | .sawRead _ b
  | .headRead _ b | .headClear _ b | .headCheck _ b | .bayRead _ b | .baySet _ b | .binEmptied _ b
  | .bundleRead _ b | .bayClose _ b | .lotSet _ b | .nextNumber _ b | .templateWrite _ b
  | .labelRead _ b | .printerOffline _ b | .printerOnline _ b | .reprint _ b
  | .releaseUnlabelled _ b | .printerRead _ b | .noticeMask _ b | .linkRead _ b | .configRead _ b
  | .configWrite _ b | .save _ b | .restart _ b | .unknownRequest _ _ b => some b
  | .encoderCount _ | .eyeInputChange _ _ | .speedIntervalEnd | .keepaliveWindowExpiry
  | .guardInputChange _ | .guardEdgeAccepted | .guardWindowExpiry | .lampABlink | .lampGDim
  | .scannerStart _ | .defect _ _ _ _ | .scannerEnd _ _ | .fieldFrameDiscarded _
  | .fieldGapTimeout _ | .evaluationCompletion _ | .sawDone _ | .sawFault _ _
  | .conversionCompletion _ | .temperatureTimer | .temperatureStale | .stepText | .stepLoad
  | .stepDigits | .stepForce | .stepMark | .stepPut | .stepFill | .stepSetchar | .stepCopy
  | .stepBlankzero | .stepLine | .stepEnd | .printerReady | .printed _ | .applied _
  | .printerFault _ _ | .applyTimeout | .saveCompletion _ | .restartExecute | .hardwareReset _ _ _
  | .hostFrameDiscarded | .hostGapTimeout | .transmitComplete | .hostByteArrival _
  | .fieldByteArrival _ _ | .overrun | .badstep | .lossOfPower => none

/-- The kind an UNKNOWN_REQUEST carries names no request (R182). -/
def Instr.kindFits : Instr → Bool
  | .unknownRequest kind _ _ => !namesRequest kind
  | _ => true

/-- A command the outside world can give (R179, R182). -/
def Instr.wellFormed (c : Instr) : Bool :=
  (match c.body with
    | some b => bodyFits b
    | none => true) && c.kindFits

end Sys2Proof
end

