-- ==== Sys2Proof/Certificates/Slice0/Obligations.lean ====
section
/-! DEFINITION. Certificates/Slice0/Obligations.lean: the statements for the provers, from the numbered
rules of spec/. A meaning is stated by the whole next state it answers, so that each statement is its own
frame: what it does not name stays as it was. `settle` is what every command ends with (LAMP-A and the
transmit arbiter), stated in OutputPinsFollowTheState and ArbiterTakesTheOldest. -/

open Sys2Proof Sys2Proof.Machine

/-! ### The machine and its clock -/

/-- A step takes the command at the front of the queue and runs it with the queue's rest (the row's own
rule for a block; notes/assumptions/1.md). On an empty queue the step runs an event of the clock whose
moment has come, and otherwise a quarter-millisecond passes, and then every running timer still lies
ahead. Model's choice (notes/assumptions/2.md); the timers are those of R2, R33, R39 and R96. -/
def Obligations.StepRunsTheFrontCommand : Prop :=
  (∀ (c : Instr) (s : State), step { s with pending := c :: s.pending } = exec c s) ∧
  (∀ s : State, s.pending = [] →
    (∀ c, dueEvent s = some c → s.powered = true ∧ step s = exec c s) ∧
    (dueEvent s = none → step s = .next { s with now := s.now + 1 }) ∧
    (dueEvent s = none → s.powered = true →
      s.now < s.track.intervalEnd ∧ s.now < s.heads.nextTemp ∧
        (∀ t, s.sup.window.expiry = some t → s.now < t) ∧
        ∀ t, s.sup.guard = .watching t → s.now < t))

/-- Every command answers a next state: the spec names no condition that stops the part (00, 0.5). That
it leaves the rest of the queue and the part's clock as they stood, taking no time, is the model's
choice (notes/assumptions/1.md and 2.md). Without supply only the levels of the pins change, until the
supply comes up again: model's choice too (notes/assumptions/33.md); an eye's level that changes stands
since the reset no more (notes/assumptions/11.md). -/
def Obligations.CommandsAnswerNextStates : Prop :=
  (∀ (c : Instr) (s : State), ∃ t, exec c s = .next t ∧ t.pending = s.pending ∧ t.now = s.now) ∧
  (∀ (c : Instr) (s : State), s.powered = false → (∀ baud fsel, c ≠ .hardwareReset .power baud fsel) →
    exec c s = .next (match c with
      | .encoderCount .encA => { s with track := { s.track with encA := !s.track.encA } }
      | .encoderCount .encB => { s with track := { s.track with encB := !s.track.encB } }
      | .eyeInputChange .eyeIn b =>
        { s with track := { s.track with eyeIn := s.track.eyeIn.see b } }
      | .eyeInputChange .eyeCk b =>
        { s with track := { s.track with eyeCk := s.track.eyeCk.see b } }
      | .guardInputChange b => { s with sup := { s.sup with guardHigh := b, guardHighSince := none } }
      | .lossOfPower =>
        { s with
          store :=
            { s.store with
              image := if s.store.saving.isSome then none else s.store.image, saving := none } }
      | _ => s)) ∧
  ∀ (f : EyeFilter) (b : Bool),
    f.see b = { f with input := b, fromReset := f.fromReset && f.input == b }

/-- LAMP-A's cycle runs exactly while an attention condition holds, each phase 250 ms long, and LAMP-G's
dimming cycle is lit for 1.25 ms in each 5 ms (R42, R43). That LAMP-A is looked at where a command ends
is the model's choice (notes/assumptions/35.md). The output pins follow the state: GATE-IN is open only
in RUN, or in FAILSAFE in FS-CONTINUE with stop pending clear, with the hold-source set empty and no
restart pending (R28, R37); a bay's gate while its over-gate count is above 0 (R122); LAMP-R while the
alarm list is non-empty; LAMP-A in the lit phase of its cycle; LAMP-G steadily in RUN, in the lit phase
of its cycle in HOLD and STOPPING, and not in START, READY and FAILSAFE (R42). -/
def Obligations.OutputPinsFollowTheState : Prop :=
  (∀ s : State,
    (s.attention = true ↔
      (∃ b : Bay, s.sort.bays[b].state = some .blocked ∨
        ((s.cfg.bays[b] = .regrade ∨ s.cfg.bays[b] = .mixed) ∧
          s.cfg.bundling.capacity[b] ≤ s.sort.bays[b].occupancy.toNat)) ∨
      s.cfg.bundling.chuteCapacity ≤ s.sort.chuteOccupancy.toNat ∨
      s.heads.preWarning = true ∨ s.printer.online = false) ∧
    (settle s).sup =
      { s.sup with
        lampA :=
          if s.attention then some (s.sup.lampA.getD { lit := true, ends := s.now + 1000 })
          else none } ∧
    (s.powered = true →
      (∀ p, s.sup.lampA = some p → p.ends ≤ s.now →
        exec .lampABlink s =
          .next (settle
            { s with sup := { s.sup with lampA := some { lit := !p.lit, ends := s.now + 1000 } } })) ∧
      ((∀ p, s.sup.lampA = some p → s.now < p.ends) → exec .lampABlink s = .next (settle s)) ∧
      (∀ p, s.sup.lampG = some p → p.ends ≤ s.now →
        exec .lampGDim s =
          .next (settle
            { s with
              sup :=
                { s.sup with
                  lampG :=
                    some { lit := !p.lit, ends := s.now + (if p.lit then 15 else 5) } } })) ∧
      ((∀ p, s.sup.lampG = some p → s.now < p.ends) → exec .lampGDim s = .next (settle s)))) ∧
  (∀ s : State, s.powered = true →
    (s.gateInOpen = true ↔
      s.sup.holds = [] ∧ s.store.restart = .none ∧
        (s.sup.line = .run ∨
          s.sup.line = .failsafe ∧ s.sup.failSafe = .continue ∧ s.sup.stopPending = false)) ∧
    (∀ b : Bay, s.gateOpen b = true ↔ 0 < s.sort.bays[b].overGate) ∧
    (s.lampR = true ↔ s.sup.alarms ≠ []) ∧
    (s.lampA = true ↔ ∃ p, s.sup.lampA = some p ∧ p.lit = true) ∧
    (s.sup.line = .run → s.lampG = true) ∧
    ((s.sup.line = .hold ∨ s.sup.line = .stopping) →
      (s.lampG = true ↔ ∃ p, s.sup.lampG = some p ∧ p.lit = true)) ∧
    ((s.sup.line = .start ∨ s.sup.line = .ready ∨ s.sup.line = .failsafe) → s.lampG = false))

/-! ### The host link -/

/-- A whole good frame of the host line, byte by byte, is the command of its kind's row: while the
receiver hunts, sending `hostFrame kind tag body` and running the row's command leave the part in one
state, the moment of the last byte noted (R179, R180, R182). So is a whole good frame of a field line,
of its message's row: while the line's receiver hunts, the bytes and the row's command leave the part in
one state, the moment of the last byte noted (R46, R82, R166; 13, 13.5). The premise `settle s = s`
holds after every command. -/
def Obligations.FramesAreTheirCommands : Prop :=
  (∀ (kind tag : Byte) (body : List Byte) (s : State), body.length ≤ 250 → s.powered = true →
    s.link.rx.stage = .hunt → settle s = s →
    runAll ((hostFrame kind tag body).map Instr.hostByteArrival) s =
      exec (commandOfFrame kind tag body)
        { s with link := { s.link with rx := { stage := .hunt, lastByte := s.now } } }) ∧
  ∀ (c : Instr) (line : FieldLine) (frame : List Byte) (s : State),
    fieldFrameOf c = some (line, frame) → s.powered = true →
    (s.fieldRx line).stage = .hunt → settle s = s →
    runAll (frame.map (Instr.fieldByteArrival line)) s =
      exec c (setFieldRx line { stage := .hunt, lastByte := s.now } s)

/-- A request of fixed body size whose body has another size is refused LENGTH, and a kind that names no
request is refused UNKNOWN, before any owner is asked; and whatever the refusal and whoever gives it,
nothing but the reply list changes (R182). A good frame of any kind arriving while a request is in hand
is refused BUSY at the tail of the reply list while fewer than 4 BUSY refusals wait, and is an overrun
otherwise; it reaches no owner (R181). -/
def Obligations.WrongSizesAndKindsAreRefused : Prop :=
  (∀ (kind tag : Byte) (body : List Byte) (s : State), Listening s →
    (∀ n, fixedBodySize kind = some n → body.length ≠ n →
      exec (commandOfFrame kind tag body) s =
        .next (settle (answered kind tag (.refused .length 0) s))) ∧
    (namesRequest kind = false →
      commandOfFrame kind tag body = .unknownRequest kind tag body ∧
        exec (.unknownRequest kind tag body) s =
          .next (settle (answered kind tag (.refused .unknown 0) s))) ∧
    (∀ code detail, (serveKind kind body s).2 = .refused code detail →
      exec (commandOfFrame kind tag body) s =
        .next (settle (answered kind tag (.refused code detail) s)))) ∧
  (∀ (kind tag : Byte) (body : List Byte) (s : State), s.powered = true → s.requestInHand = true →
    (s.busyWaiting < 4 →
      exec (commandOfFrame kind tag body) s =
        .next (settle
          { s with
            link :=
              { s.link with
                rx := { s.link.rx with stage := .hunt }
                replies := s.link.replies ++
                  [{ kind := kind, tag := tag, answer := .refused .busy 0, inHand := false }]
                busyRefusals := sat16 s.link.busyRefusals } })) ∧
    (4 ≤ s.busyWaiting →
      exec (commandOfFrame kind tag body) s =
        .next (settle
          { s with
            link :=
              { s.link with
                rx := { s.link.rx with stage := .hunt }
                overruns := sat16 s.link.overruns } })))

/-- Each byte of the host line is judged in the state the receiver holds, a discarded frame counts a
link error, and a partial frame is abandoned when more than 20 ms have passed since its last byte
(R180). A good check is `FramesAreTheirCommands`. -/
def Obligations.HostBytesAreJudged : Prop :=
  ∀ (b : Byte) (s : State), s.powered = true →
    (let rxd (st : RxStage) (k : HostLink) : State :=
      { s with link := { k with rx := { stage := st, lastByte := s.now } } }
    (s.link.rx.stage = .hunt → b = 0xC3 →
      exec (.hostByteArrival b) s = .next (settle (rxd .length s.link))) ∧
    (s.link.rx.stage = .hunt → b ≠ 0xC3 →
      exec (.hostByteArrival b) s =
        .next (settle (rxd .hunt { s.link with noise := sat16 s.link.noise }))) ∧
    (s.now ≤ s.link.rx.lastByte + 80 →
      (s.link.rx.stage = .length → 2 ≤ b.toNat → b.toNat ≤ 252 →
        exec (.hostByteArrival b) s = .next (settle (rxd (.collect b.toNat []) s.link))) ∧
      (s.link.rx.stage = .length → (b.toNat < 2 ∨ 252 < b.toNat) →
        exec (.hostByteArrival b) s =
          .next (settle (rxd .hunt { s.link with errors := sat16 s.link.errors }))) ∧
      (∀ len kept, s.link.rx.stage = .collect len kept →
        exec (.hostByteArrival b) s =
          .next (settle
            (rxd (if kept.length + 1 < len then .collect len (kept ++ [b])
              else .check len (kept ++ [b])) s.link))) ∧
      (∀ len kept, s.link.rx.stage = .check len kept → crc8 (BitVec.ofNat 8 len :: kept) ≠ b →
        exec (.hostByteArrival b) s =
          .next (settle (rxd .hunt { s.link with errors := sat16 s.link.errors })))) ∧
    (s.link.rx.stage ≠ .hunt → s.link.rx.lastByte + 80 < s.now →
      exec (.hostByteArrival b) s =
        .next (settle
          (rxd (if b = 0xC3 then .length else .hunt)
            { s.link with
              errors := sat16 s.link.errors
              noise := if b = 0xC3 then s.link.noise else sat16 s.link.noise })))) ∧
    (let discarded : State :=
      { s with
        link :=
          { s.link with
            errors := sat16 s.link.errors, rx := { s.link.rx with stage := .hunt } } }
    exec .hostFrameDiscarded s = .next (settle discarded) ∧
    (s.link.rx.stage ≠ .hunt → s.link.rx.lastByte + 80 < s.now →
      exec .hostGapTimeout s = .next (settle discarded)) ∧
    ((s.link.rx.stage = .hunt ∨ s.now ≤ s.link.rx.lastByte + 80) →
      exec .hostGapTimeout s = .next (settle s)))

/-- The transmit arbiter, where a command ends with the line free: the oldest reply, or else the oldest
notice; with both waiting it takes the one or the other (R183, whose race is a free value:
notes/assumptions/22.md). With a frame in transmission, or a restart due, nothing is taken. When a
frame's last byte has gone the line becomes free: a reply leaves the reply list then, and the oldest
reply, or else the oldest notice, is taken next (R181, R183); when the ACCEPTED reply to RESTART has
gone nothing more is sent (R194), and the restart is due, made by a later event: model's choice, where
R194 makes it at that moment (notes/assumptions/38.md). NOTICE MASK sets the whole mask set and replies
with the set as it stood before, or is refused RANGE (R186). A masked event changes nothing of the link;
an unmasked one makes its source's entry at the tail or is coalesced into the one that waits, so that
each source waits at most once (R185). -/
def Obligations.FramesGoAndNoticesWait : Prop :=
  (∀ s : State,
    ((s.link.tx ≠ .free ∨ s.store.restart = .due) →
      (settle s).link = s.link ∧ (settle s).races = s.races) ∧
    (s.link.tx = .free → s.store.restart ≠ .due →
      (s.link.replies = [] → s.link.notices = [] →
        (settle s).link = s.link ∧ (settle s).races = s.races) ∧
      (∀ r rs, s.link.replies = r :: rs → s.link.notices = [] →
        (settle s).link = { s.link with tx := .reply r.frame } ∧ (settle s).races = s.races) ∧
      (∀ e es, s.link.replies = [] → s.link.notices = e :: es →
        (settle s).link =
            { s.link with tx := .notice e.frame, notices := es, sent := sat16 s.link.sent } ∧
          (settle s).races = s.races) ∧
      (∀ r rs e es, s.link.replies = r :: rs → s.link.notices = e :: es →
        ((settle s).link = { s.link with tx := .reply r.frame } ∨
          (settle s).link =
            { s.link with tx := .notice e.frame, notices := es, sent := sat16 s.link.sent }) ∧
          (settle s).races = s.races + 1)) ∧
    { settle s with sup := s.sup, link := s.link, races := s.races } = s) ∧
  (∀ s : State, s.powered = true →
    (∀ f r rs, s.link.tx = .reply f → s.link.replies = r :: rs → s.store.restart = .none →
      exec .transmitComplete s =
        .next (settle
          { s with
            link :=
              match rs, s.link.notices with
              | q :: _, _ => { s.link with replies := rs, tx := .reply q.frame }
              | [], e :: es =>
                { s.link with
                  replies := [], tx := .notice e.frame, notices := es, sent := sat16 s.link.sent }
              | [], [] => { s.link with replies := [], tx := .free } })) ∧
    (∀ f, s.link.tx = .notice f → s.store.restart = .none →
      exec .transmitComplete s =
        .next (settle
          { s with
            link :=
              match s.link.replies, s.link.notices with
              | q :: _, _ => { s.link with tx := .reply q.frame }
              | [], e :: es =>
                { s.link with tx := .notice e.frame, notices := es, sent := sat16 s.link.sent }
              | [], [] => { s.link with tx := .free } })) ∧
    (∀ f tag b rs, s.link.tx = .reply f →
      s.link.replies = { kind := 0x33, tag := tag, answer := .accepted b, inHand := true } :: rs →
      s.store.restart = .pending →
      exec .transmitComplete s =
        .next (settle
          { s with
            link := { s.link with replies := rs, tx := .free }
            store := { s.store with restart := .due } }))) ∧
  ((∀ (tag a b c : Byte) (s : State), Listening s →
    let m : BitVec 24 := c ++ b ++ a
    (m.getLsbD 15 = false → m.getLsbD 22 = false → m.getLsbD 23 = false →
      exec (.noticeMask tag [a, b, c]) s =
        .next (settle
          { answered 0x2C tag
              (.accepted
                [s.link.masks.extractLsb' 0 8, s.link.masks.extractLsb' 8 8,
                  s.link.masks.extractLsb' 16 8]) s with
            link :=
              { linkReplied 0x2C tag
                  (.accepted
                    [s.link.masks.extractLsb' 0 8, s.link.masks.extractLsb' 8 8,
                      s.link.masks.extractLsb' 16 8]) [] s with
                masks := m } })) ∧
    ((m.getLsbD 15 || m.getLsbD 22 || m.getLsbD 23) = true →
      exec (.noticeMask tag [a, b, c]) s =
        .next (settle (answered 0x2C tag (.refused .range 1) s)))) ∧
  ∀ (n : Notice) (k : HostLink),
    (k.masks.getLsbD n.maskBit = true → giveLink n k = k) ∧
    (k.masks.getLsbD n.maskBit = false → (∀ e ∈ k.notices, e.source ≠ n.source) →
      giveLink n k =
        { k with
          notices := k.notices ++
            [{ source := n.source, events := 1 <<< (n.number - 1), latest := n, repeats := 1 }]
          queued := sat16 k.queued }) ∧
    (∀ pre e post, k.masks.getLsbD n.maskBit = false → k.notices = pre ++ e :: post →
      e.source = n.source → (∀ x ∈ pre ++ post, x.source ≠ n.source) →
      giveLink n k =
        { k with
          notices := pre ++
            { e with
              events := e.events ||| 1 <<< (n.number - 1)
              latest := n
              repeats := min (e.repeats + 1) 255 } :: post
          coalesced := sat16 k.coalesced }))

/-! ### Reads -/

/-- The reads of a whole unit are ACCEPTED with the unit as it stands and change nothing but the reply
list, each body the items its rule lists, in that order: STATUS (R44), SCANNER READ (R57), GRADING READ
(R80), SAW READ (R91), BAY READ (R129), LABEL READ (R164), PRINTER READ (R177) and LINK READ (R187),
with the codes and absent marks of R195 and spec/13; where R195 leaves a layout open the choice is
notes/assumptions/28.md and 30.md, and the part of a millisecond of the time left is a free value
(notes/assumptions/24.md). The reads with a selector: TRACK READ lists up to twelve records from its
starting index 0 to 63, each in the summary of 13.3 (R21), BUNDLE READ the list and one bay's bundle and
record (R145), CONFIG READ one section and the store's state, the last check and the two counters after
it (R190; notes/assumptions/28.md). A selector outside its range is refused RANGE, a bay without a
bundle NOT FOUND. Nothing else changes. HEAD READ is HeadRequestsAreServed. -/
def Obligations.ReadsChangeNothing : Prop :=
  (∀ (tag : Byte) (s : State), Listening s →
    let b8 (n : Nat) : List Byte := [BitVec.ofNat 8 n]
    let yes (c : Bool) : List Byte := [if c then 1 else 0]
    let c16 (cs : List Count16) : List Byte := cs.flatMap (fun c => u16 c.toNat)
    let reads (c : Byte → List Byte → Instr) (kind : Byte) (body : List Byte) : Prop :=
      exec (c tag []) s = .next (settle (answered kind tag (.accepted body) s))
    let t : Statistics := s.track.stats
    let p : ScannerPort := s.scanner
    let g : GradingEngine := s.grading
    let w : SawPort := s.saw
    let k : HostLink := s.link
    reads .status 0x01
      (b8 (match s.sup.line with
          | .start => 0 | .ready => 1 | .run => 2 | .hold => 3 | .stopping => 4 | .failsafe => 5) ++
        b8 (setBits [.host, .guard, .trackFull, .temp, .head, .check, .bin] s.sup.holds) ++
        yes s.sup.holdEffective ++ yes s.sup.stopPending ++ yes (s.sup.failSafe == .continue) ++
        b8 (match s.sup.resetCause with | .power => 0 | .pin => 1 | .restart => 2) ++
        b8 s.sup.alarms.length ++
        s.sup.alarms.flatMap (fun a => match a with
          | .keepAlive => [0, 0] | .guard => [1, 0] | .head n => [2, BitVec.ofNat 8 (n.val + 1)]
          | .temp => [3, 0] | .saw => [4, 0] | .config => [5, 0]) ++
        b8 (match s.cfg.supervision.period with
          | .ms100 => 0 | .ms200 => 1 | .ms500 => 2 | .ms1000 => 3 | .ms2000 => 4 | .off => 5) ++
        b8 (match s.sup.window with | .none => 0 | .normal _ _ => 1 | .long _ => 2) ++
        b8 (match s.sup.guard with | .inactive => 0 | .watching _ => 1 | .lapsed => 2) ++
        u16 s.track.speed ++
        [t.admitted, t.phantom, t.lost, t.bundled, t.regrade, t.mixed, t.reject, t.lateDecisions,
          t.cutUnconfirmed, t.scannerFaults].flatMap (fun c => u32 c.toNat)) ∧
    reads .scannerRead 0x11
      (b8 (match p.reception with | .idle => 0 | .receiving => 1 | .discarding => 2) ++
        u16 (p.receiving.getD 0).toNat ++ b8 p.received ++ yes p.damaged ++
        b8 p.announces.length ++ b8 (p.announces.take 16).length ++
        (p.announces.take 16).flatMap (fun n => u16 n.toNat) ++
        c16 [p.lineErrors, p.missed, p.unmatched, p.tooLate, p.sequence, p.truncated,
          p.incomplete, p.rejected]) ∧
    reads .gradingRead 0x12
      (yes g.inFlight.isSome ++ u16 ((g.inFlight.map EvalInputs.strip).getD 0).toNat ++
        b8 g.queue.length ++ b8 g.queue.length ++ g.queue.flatMap (fun n => u16 n.toNat) ++
        (match g.last with
          | none => List.replicate 16 0
          | some l =>
            u16 l.strip.toNat ++ u16 l.windows ++
              match l.result with
              | .graded c gr h r m => b8 1 ++ b8 c ++ b8 gr ++ u16 h ++ u16 r ++ u32 m ++ [0]
              | .default why c h r =>
                b8 2 ++ b8 c ++ [0] ++ u16 h ++ u16 r ++ List.replicate 4 0xFF ++ b8 why.code
              | .pass why =>
                [3, 0xFF, 0, 0xFF, 0xFF, 0, 0] ++ List.replicate 4 0xFF ++ b8 why.code) ++
        c16 [g.completed, g.abandoned, g.withdrawn, g.refused]) ∧
    reads .sawRead 0x13
      (b8 w.orders.length ++ b8 (w.orders.take 16).length ++
        (w.orders.take 16).flatMap (fun o =>
          u16 o.strip.toNat ++ (match o.form with | .cut _ _ => [0] | .pass => [1])) ++
        (match w.lastFault with | none => [0, 0, 0] | some (n, c) => u16 n.toNat ++ [c]) ++
        c16 [w.lineErrors, w.sent, w.confirmed, w.faults, w.lateReplies, w.strayReplies,
          w.withdrawn]) ∧
    reads .bayRead 0x18
      ((List.finRange 12).flatMap (fun b =>
          (match s.cfg.bays[b] with
            | .graded key => b8 0 ++ b8 key.grade ++ b8 key.cls
            | .regrade => [1, 0, 0xFF] | .mixed => [2, 0, 0xFF] | .disabled => [3, 0, 0xFF]) ++
          (match s.sort.bays[b].state with
            | none => [0xFF] | some .opened => [0] | some .filled => [1] | some .closing => [2]
            | some .blocked => [3]) ++
          u16 s.cfg.bundling.capacity[b] ++ u16 s.sort.bays[b].occupancy.toNat ++
          b8 s.sort.bays[b].inTransit ++ b8 s.sort.bays[b].overGate ++
          yes (0 < s.sort.bays[b].overGate)) ++
        u16 s.sort.chuteOccupancy.toNat ++ u16 s.cfg.bundling.chuteCapacity ++
        b8 s.sort.chuteInTransit ++ yes (s.sup.holds.contains .bin) ++
        c16 [s.sort.mixedFallbacks, s.sort.gradedToChute, s.sort.regradeToChute]) ∧
    reads .labelRead 0x21
      (yes s.labels.composing.isSome ++
        u32 ((s.labels.composing.map (fun c => c.record.number)).getD 0) ++
        b8 (s.cfg.label.slot.val + 1) ++ s.cfg.templates.toList.flatMap (fun x => b8 x.length) ++
        b8 s.labels.requests.length ++
        s.labels.requests.flatMap (fun b => u32 (((s.record b).map (·.number)).getD 0)) ++
        b8 s.labels.queue.length ++
        ((s.labels.queue.take 1).flatMap (fun l =>
          u32 l.number ++ b8 l.text.length ++ yes l.printed ++ yes s.printer.inFlight)) ++
        ((s.labels.queue.drop 1).flatMap (fun l =>
          u32 l.number ++ b8 l.text.length ++ yes l.printed ++ [0])) ++
        (match s.labels.lastFault with
          | none => [0, 0, 0]
          | some f =>
            b8 (match f.fault with
              | .overrun => 1 | .long => 2 | .exhausted => 3 | .badStep => 4) ++
            b8 (f.slot.val + 1) ++ b8 f.cursor) ++
        c16 [s.labels.completed, s.labels.faults, s.labels.overflows]) ∧
    reads .printerRead 0x28
      (yes (!s.printer.online) ++ yes (!s.printer.ready) ++ yes s.printer.idlePending ++
        u32 (match s.printer.inFlight, s.labels.queue with | true, l :: _ => l.number | _, _ => 0) ++
        u16 (match s.printer.applyExpiry with
          | none => 0
          | some e =>
            let q : Nat := e - s.now
            if q % 4 ≠ 0 ∧ Config.partMillisecondCounts q = true then q / 4 + 1 else q / 4) ++
        b8 s.labels.queue.length ++
        (match s.printer.lastFailed with
          | none => [0, 0, 0, 0, 0]
          | some (n, b) => u32 n ++ b8 (b.val + 1)) ++
        c16 [s.printer.lineErrors, s.printer.sent, s.printer.applied, s.printer.faults,
          s.printer.timeouts, s.printer.lateApplies, s.printer.stray]) ∧
    reads .linkRead 0x2D
      (u32 (match k.baud with | .b115200 => 115200 | .b460800 => 460800) ++
        b8 (k.replies.filter (fun r => !r.inHand)).length ++ b8 k.notices.length ++
        k.notices.flatMap (fun e => b8 e.source.place ++ b8 e.source.index ++ b8 e.repeats) ++
        [k.masks.extractLsb' 0 8, k.masks.extractLsb' 8 8, k.masks.extractLsb' 16 8] ++
        c16 [k.errors, k.noise, k.busyRefusals, k.overruns, k.queued, k.coalesced, k.sent])) ∧
  (∀ (travel : Travel) (r : Strip),
    let b8 (n : Nat) : List Byte := [BitVec.ofNat 8 n]
    r.summary travel =
      u16 r.number.toNat ++ u32 (travel - (r.admission + r.adjustment)).toNat ++
        (if r.joined then [0xFF, 0xFF] else u16 (r.infeed.getD 0)) ++ u16 (r.current.getD 0) ++
        b8 (match r.check with | .unchecked => 0 | .matched => 1) ++
        b8 (match r.scan with
          | .none => 0 | .announced => 1 | .receiving => 2 | .complete => 3 | .truncated => 4
          | .incomplete => 5 | .missed => 6) ++
        b8 (match r.eval with
          | .notQueued => 0 | .queued => 1 | .evaluating => 2 | .done => 3 | .abandoned => 4) ++
        (match r.plan with
          | none => [0, 0, 0xFF]
          | some (.graded c g _ _ _) => [1, BitVec.ofNat 8 g, BitVec.ofNat 8 c]
          | some (.default why c _ _) => [2, BitVec.ofNat 8 why.code, BitVec.ofNat 8 c]
          | some (.pass why) => [3, BitVec.ofNat 8 why.code, 0xFF]) ++
        b8 (match r.cut with
          | .none => 0 | .ordered => 1 | .confirmed => 2 | .unconfirmed => 3 | .faulted => 4) ++
        b8 (match r.suspect with | none => 0 | some n => n.val + 1) ++
        b8 (match r.route with
          | none => 0
          | some (.graded _ _) => 16
          | some (.regrade why) => 32 + why.code
          | some (.reject why) => 48 + why.code) ++
        b8 (match r.bay with
          | none => 0
          | some (.gradedBay b) | some (.regradeBin b) | some (.mixedBin b) =>
            b.val + 1
          | some .endChute => 13)) ∧
  (∀ (tag n : Byte) (s : State), Listening s →
    let b8 (n : Nat) : List Byte := [BitVec.ofNat 8 n]
    let header : List Byte :=
      u32 s.bundles.nextNumber ++ textField 12 s.bundles.lot ++ textField 10 s.bundles.date ++
        [BitVec.ofNat 8 s.bundles.dispatch.length] ++
        s.bundles.dispatch.flatMap (fun r =>
          u32 r.number ++ [BitVec.ofNat 8 (r.bay.val + 1), BitVec.ofNat 8 r.label.code])
    (n.toNat ≤ 63 →
      exec (.trackRead tag [n]) s =
        .next (settle
          (answered 0x10 tag
            (.accepted
              ([BitVec.ofNat 8 s.track.strips.length, n,
                  BitVec.ofNat 8 (min 12 (s.track.strips.length - n.toNat))] ++
                ((s.track.strips.drop n.toNat).take 12).flatMap (Strip.summary s.track.travel)))
            s))) ∧
    (63 < n.toNat →
      exec (.trackRead tag [n]) s = .next (settle (answered 0x10 tag (.refused .range 1) s))) ∧
    (n = 0 →
      exec (.bundleRead tag [n]) s =
        .next (settle (answered 0x1C tag (.accepted header) s))) ∧
    (∀ (b : Bay) (o : OpenBundle), n.toNat = b.val + 1 → s.bundles.bundles[b] = some o →
      exec (.bundleRead tag [n]) s =
        .next (settle
          (answered 0x1C tag
            (.accepted
              (header ++
                b8 (match s.sort.bays[b].state with
                  | none => 0xFF | some .opened => 0 | some .filled => 1 | some .closing => 2
                  | some .blocked => 3) ++
                [BitVec.ofNat 8 o.key.grade, BitVec.ofNat 8 o.key.cls] ++
                (match o.limits with
                  | none => List.replicate 8 0
                  | some l =>
                    u16 l.nominal ++ [BitVec.ofNat 8 l.width] ++ u32 l.target ++
                      [BitVec.ofNat 8 l.maxStrips]) ++
                [BitVec.ofNat 8 o.committed] ++ u32 o.committedArea ++
                [BitVec.ofNat 8 o.dropped] ++ u32 o.droppedArea ++ u16 (o.first.getD 0).toNat ++
                u16 (o.last.getD 0).toNat ++ o.lot.getD (List.replicate 12 0) ++
                b8 (match o.closeReason with
                  | some .target => 0 | some .count => 1 | some .host => 2 | some .runEnd => 3
                  | none => 0xFF) ++
                (match s.bundles.dispatch.find? (fun r => r.bay == b) with
                  | some r => r.bytes
                  | none => List.replicate 48 0))) s))) ∧
    (∀ b : Bay, n.toNat = b.val + 1 → s.bundles.bundles[b] = none →
      exec (.bundleRead tag [n]) s = .next (settle (answered 0x1C tag (.refused .notFound 0) s))) ∧
    (12 < n.toNat →
      exec (.bundleRead tag [n]) s = .next (settle (answered 0x1C tag (.refused .range 1) s))) ∧
    (∀ sec, sectionOf n.toNat = some sec →
      exec (.configRead tag [n]) s =
        .next (settle
          (answered 0x30 tag
            (.accepted
              (sec.bytes s.cfg ++
                [if s.store.saving.isSome then 1 else 0, if s.store.edited then 1 else 0,
                  BitVec.ofNat 8 s.store.lastCheck] ++
                u16 s.store.saves.toNat ++ u16 s.store.failures.toNat)) s))) ∧
    ((n.toNat = 0 ∨ 27 < n.toNat) →
      exec (.configRead tag [n]) s = .next (settle (answered 0x30 tag (.refused .range 1) s))))

/-! ### The strip track -/

/-- A quadrature edge is a forward count when ENC-A leads and a reverse one otherwise; a count that
leaves the remainder short of a millimetre either way moves the remainder only, and both eyes' filters
look at their inputs (R1, R3). That the edge's direction is read from the levels before it is
notes/assumptions/8.md. A count that makes a whole millimetre moves the travel counter by one and starts
what that travel brings: the filters' edges, the JOINED mark, the check eye's judgement and expiry, and
the passing events (R3, R7, R12 to R14), in this order by the model's choice (notes/assumptions/10.md);
CheckEyeEdgesAreJudged and the statements after it say what each does. Whatever a count starts, the
travel counter moves only so, and a changed counts-per-mm setting takes effect with it, its remainder
discarded (R1); the feed speed, its interval, the encoder's other input, the printer, the configuration
and the replies stay as they were. At the end of each 100 ms interval the feed speed becomes the
interval's net travel × 0.6 m/min with the fraction dropped, from 0 to 600, a net reverse interval
giving 0 (R2); before it nothing happens. -/
def Obligations.CountsMoveTravel : Prop :=
  (∀ (input : EncoderInput) (s : State), s.powered = true →
    s.track.countsInForce = s.cfg.line.countsPerMm →
    let forward : Bool :=
      match input with
      | .encA => s.track.encA == s.track.encB
      | .encB => s.track.encA != s.track.encB
    let r : Int := if forward then s.track.remainder + 1 else s.track.remainder - 1
    let cpm : Int := s.cfg.line.countsPerMm
    let counted (travel : Travel) (rest : Int) : State :=
      { s with
        track :=
          { s.track with
            encA := if input = .encA then !s.track.encA else s.track.encA
            encB := if input = .encB then !s.track.encB else s.track.encB
            travel := travel
            remainder := rest
            eyeIn := s.track.eyeIn.follow s.track.travel s.gateInOpen
            eyeCk := s.track.eyeCk.follow s.track.travel s.gateInOpen } }
    let travelled (u : State) : State :=
      passingEvents (expiryTest (travelJudgement (markJoined (filterEyeCk (filterEyeIn u)))))
    (r < cpm → -cpm < r →
      exec (.encoderCount input) s = .next (settle (counted s.track.travel r))) ∧
    (cpm ≤ r →
      exec (.encoderCount input) s =
        .next (settle (travelled (counted (s.track.travel + 1) (r - cpm))))) ∧
    (r < cpm → r ≤ -cpm →
      exec (.encoderCount input) s =
        .next (settle (travelled (counted (s.track.travel - 1) (r + cpm)))))) ∧
  (∀ (input : EncoderInput) (s t : State), s.powered = true → exec (.encoderCount input) s = .next t →
    let forward : Bool :=
      match input with
      | .encA => s.track.encA == s.track.encB
      | .encB => s.track.encA != s.track.encB
    let cpm : Int := s.cfg.line.countsPerMm
    let kept : Int :=
      if s.track.countsInForce = s.cfg.line.countsPerMm then s.track.remainder else 0
    let r : Int := if forward then kept + 1 else kept - 1
    (cpm ≤ r → t.track.travel = s.track.travel + 1 ∧ t.track.remainder = r - cpm) ∧
    (r < cpm → r ≤ -cpm → t.track.travel = s.track.travel - 1 ∧ t.track.remainder = r + cpm) ∧
    (r < cpm → -cpm < r → t.track.travel = s.track.travel ∧ t.track.remainder = r) ∧
    t.track.countsInForce = s.cfg.line.countsPerMm ∧
    t.track.encA = (if input = .encA then !s.track.encA else s.track.encA) ∧
    t.track.encB = (if input = .encB then !s.track.encB else s.track.encB) ∧
    t.track.speed = s.track.speed ∧ t.track.intervalStart = s.track.intervalStart ∧
    t.track.intervalEnd = s.track.intervalEnd ∧ t.printer = s.printer ∧
    { t.store with lastCheck := s.store.lastCheck } = s.store ∧
    t.link.replies = s.link.replies ∧ t.link.masks = s.link.masks) ∧
  (∀ s : State, s.powered = true →
    (s.track.intervalEnd ≤ s.now →
      exec .speedIntervalEnd s =
        .next (settle
          { s with
            track :=
              { s.track with
                speed :=
                  if (s.track.travel - s.track.intervalStart).toInt < 0 then 0
                  else min ((s.track.travel - s.track.intervalStart).toInt.toNat * 6 / 10) 600
                intervalStart := s.track.travel
                intervalEnd := s.track.intervalEnd + 400 } })) ∧
    (s.now < s.track.intervalEnd → exec .speedIntervalEnd s = .next (settle s)))

/-- A change at an eye's input becomes pending with the travel counter's value when the level differs
from the accepted level and none is pending, and a pending change is discarded when the level returns
(R3); the state of GATE-IN is noted with it (R4; notes/assumptions/9.md), and is closed for a level that
stands since the reset (the note of R3; when that change begins is notes/assumptions/11.md). A change of
the input at EYE-IN lets R7 be tested at once and one at EYE-CK the expiry of R13; with no record in
admission or no candidate nothing else changes. A pending change is accepted when the travel since its
start has reached the filter distance, and the edge is handed to admission or to check-eye matching with
its start position; until then neither filter hands anything on (R3). -/
def Obligations.EyeChangesPend : Prop :=
  (∀ (f : EyeFilter) (travel : Travel) (g : Bool),
    (f.input = f.accepted → f.follow travel g = { f with pending := none }) ∧
    (f.input ≠ f.accepted → f.pending ≠ none → f.follow travel g = f) ∧
    (f.input ≠ f.accepted → f.pending = none →
      f.follow travel g =
        { f with pending := some { start := travel, gateOpen := g && !f.fromReset } })) ∧
  (∀ (b : Bool) (s : State), s.powered = true →
    let seen (f : EyeFilter) : EyeFilter :=
      { f with input := b, fromReset := f.fromReset && f.input == b }
    let watched (inEye ckEye : EyeFilter) : State :=
      { s with
        track :=
          { s.track with
            eyeIn := inEye.follow s.track.travel s.gateInOpen
            eyeCk := ckEye.follow s.track.travel s.gateInOpen } }
    let changedIn : State := watched (seen s.track.eyeIn) s.track.eyeCk
    let changedCk : State := watched s.track.eyeIn (seen s.track.eyeCk)
    exec (.eyeInputChange .eyeIn b) s = .next (settle (markJoined changedIn)) ∧
    exec (.eyeInputChange .eyeCk b) s = .next (settle (expiryTest changedCk)) ∧
    (s.track.inAdmission = none →
      exec (.eyeInputChange .eyeIn b) s = .next (settle changedIn)) ∧
    ((s.candidate = none ∨ (b = true ∧ s.track.eyeCk.accepted = false)) →
      exec (.eyeInputChange .eyeCk b) s = .next (settle changedCk))) ∧
  ∀ s : State,
    (∀ c, s.track.eyeIn.pending = some c →
      (s.cfg.line.eyeInFilter : Int) ≤ (s.track.travel - c.start).toInt →
      let taken (level : Bool) : State :=
        { s with
          track :=
            { s.track with eyeIn := { s.track.eyeIn with accepted := level, pending := none } } }
      (s.track.eyeIn.accepted = false → filterEyeIn s = admitStrip c (taken true)) ∧
      (s.track.eyeIn.accepted = true → filterEyeIn s = endAdmission c.start (taken false))) ∧
    ((∀ c, s.track.eyeIn.pending = some c →
        (s.track.travel - c.start).toInt < s.cfg.line.eyeInFilter) → filterEyeIn s = s) ∧
    (∀ c, s.track.eyeCk.pending = some c →
      (s.cfg.line.eyeCkFilter : Int) ≤ (s.track.travel - c.start).toInt →
      let taken (level : Bool) (edge : CkEdge) : State :=
        { s with
          track :=
            { s.track with
              eyeCk := { s.track.eyeCk with accepted := level, pending := none }
              ckEdge := edge } }
      (s.track.eyeCk.accepted = false → filterEyeCk s = taken true (.awaiting c.start)) ∧
      (s.track.eyeCk.accepted = true →
        filterEyeCk s = closeCkEdge c.start (taken false s.track.ckEdge))) ∧
    ((∀ c, s.track.eyeCk.pending = some c →
        (s.track.travel - c.start).toInt < s.cfg.line.eyeCkFilter) → filterEyeCk s = s)

/-- The strip number given is never 0 and never one that a record in the track holds (R5), and an
accepted leading edge at EYE-IN with GATE-IN open and fewer than 64 records puts exactly one new record
at the tail of the track, with that number and the change's start position (R4); otherwise it changes
nothing. -/
def Obligations.AdmissionGivesFreeNumbers : Prop :=
  (∀ (held : List StripNo) (n : StripNo), held.length ≤ 64 → n ≠ 0 →
    freeNumber held 65 n ∉ held ∧ freeNumber held 65 n ≠ 0) ∧
  ∀ (c : PendingChange) (s : State),
    (c.gateOpen = true → s.track.strips.length < 64 →
      ∃ r : Strip,
        (admitStrip c s).track.strips = s.track.strips ++ [r] ∧
        r.number = freeNumber (s.track.strips.map (·.number)) 65 s.track.nextNumber ∧
        r.admission = c.start ∧ r.adjustment = 0 ∧ r.infeed = none ∧ r.current = none ∧
        r.check = .unchecked ∧ r.scan = .none ∧ r.plan = none ∧ r.route = none ∧ r.bay = none ∧
        (admitStrip c s).track.inAdmission = some r.serial ∧ r.serial = s.track.nextSerial ∧
        (admitStrip c s).track.nextNumber = (if r.number = 0xFFFF then 1 else r.number + 1) ∧
        (admitStrip c s).track.stats.admitted = s.track.stats.admitted + 1) ∧
    ((c.gateOpen = false ∨ 64 ≤ s.track.strips.length) → admitStrip c s = s)

/-- An accepted trailing edge at EYE-IN ends the admission of the record in admission by the length it
measures, the edge's start position less the admission travel: under 150 mm the record is a chip, which
leaves the track and takes its count back; from 150 to 2600 mm the length is its infeed length, and an
offer that waited for it is made (R55); over 2600 mm the record is JOINED with that current length, at
most 65,535; with no record in admission the edge is ignored (R6). A record is marked JOINED as soon as
the travel since its admission reaches 2601 mm with EYE-IN accepted blocked and no trailing-edge change
that began at or before 2600 mm pending; with one pending the test waits, and when that change is gone
the record is marked at once, wherever reverse travel has taken it (R7). -/
def Obligations.AdmissionsEnd : Prop :=
  (∀ (start : Travel) (s : State),
    (s.track.inAdmission = none → endAdmission start s = s) ∧
    (∀ id r, s.track.inAdmission = some id → s.stripSerial id = some r →
      let len : Int := (start - r.admission).toInt
      let ended (f : Strip → Strip) : State :=
        { s with track := { s.track with inAdmission := none, strips := stripsWith id f s } }
      let measured : State := ended (fun q => { q with infeed := some len.toNat })
      (len < 150 →
        let left : State := leaveTrack r { s with track := { s.track with inAdmission := none } }
        endAdmission start s =
          afterCount
            { left with
              track :=
                { left.track with
                  stats := { left.track.stats with admitted := s.track.stats.admitted - 1 } } }) ∧
      (150 ≤ len → len ≤ 2600 →
        (r.scan = .complete → r.joined = false → r.plan = none → r.eval = .notQueued →
          endAdmission start s = offer r.number measured) ∧
        ((r.scan ≠ .complete ∨ r.joined = true ∨ r.plan ≠ none ∨ r.eval ≠ .notQueued) →
          endAdmission start s = measured)) ∧
      (2600 < len →
        endAdmission start s =
          ended (fun q => { q with joined := true, current := some (min len.toNat 65535) })))) ∧
  ∀ (id : Nat) (r : Strip) (s : State), (s.track.strips.map (·.serial)).Nodup →
    s.track.inAdmission = some id → s.stripSerial id = some r →
    let due : Prop :=
      (s.track.eyeIn.accepted = true ∧ 2601 ≤ (s.track.travel - r.admission).toInt) ∨
        r.joinWaits = true
    let ending : Prop :=
      ∃ c, s.track.eyeIn.pending = some c ∧ (c.start - r.admission).toInt ≤ 2600
    let marked (r' : Strip) : State :=
      { s with track := { s.track with strips := stripsWith id (fun _ => r') s } }
    ((r.joined = true ∨ ¬ due) → markJoined s = s) ∧
    (r.joined = false → due → ¬ ending →
      markJoined s = marked { r with joined := true, joinWaits := false }) ∧
    (r.joined = false → due → ending → markJoined s = marked { r with joinWaits := true })

/-- An EYE-CK leading edge that starts at travel E is judged against the candidate, the farthest record
still UNCHECKED, whose position at E less Pck is d. With d within the tolerance the candidate is MATCHED
and its adjustment set so that its reference is E less Pck; the adjustment stays where that would bring
it at or behind the record that follows it. With d below the tolerance a phantom is made directly ahead
of the candidate, and with no candidate one at the tail: number 0, reference E less Pck, MATCHED, plan
PASS NO VALUE, route REJECT PHANTOM, every other field at its initial value; the phantom counter rises
and a PHANTOM event carries its position (R13 to R15). That its admission travel is E less Pck with
adjustment 0 is the model's choice (notes/assumptions/39.md). With 64 records in the track no phantom is
made and the event is marked untracked (R15). After each the expiry is tested (R13). -/
def Obligations.CheckEyeEdgesAreJudged : Prop :=
  ∀ (e : Travel) (s : State),
    let ref : Travel := e - BitVec.ofNat 32 s.cfg.line.pck
    let pos : Int := (s.track.travel - ref).toInt
    let tol : Int := s.cfg.line.checkTolerance
    let phantom : Strip :=
      { serial := s.track.nextSerial, number := 0, origin := .phantom, admission := ref
        adjustment := 0, infeed := none, joined := false, joinWaits := false, current := none
        check := .matched, scan := .none, defects := none, eval := .notQueued, result := none
        plan := some (.pass .noValue), cut := .none, suspect := none
        route := some (.reject .phantom), bay := none, raised := [], createdAt := some pos }
    let judged (record : Option Nat) (strips : List Strip) : TrackUnit :=
      { s.track with ckEdge := .judged e record, strips := strips }
    let made (strips : List Strip) : State :=
      afterCount
        { s with
          track :=
            { judged (some s.track.nextSerial) strips with
              nextSerial := s.track.nextSerial + 1
              stats := { s.track.stats with phantom := s.track.stats.phantom + 1 } }
          link := linkAfter [.phantom pos] s }
    let untracked : State :=
      { s with
        track := judged none s.track.strips
        link := linkAfter [.phantomUntracked] s }
    (∀ pre r post, s.track.strips = pre ++ r :: post → (∀ q ∈ pre, q.check = .matched) →
      r.check = .unchecked → (s.track.strips.map (·.serial)).Nodup →
      let d : Int := (e - (r.admission + r.adjustment)).toInt - s.cfg.line.pck
      let behind : Prop :=
        ∃ q rest, post = q :: rest ∧ pos ≤ (s.track.travel - (q.admission + q.adjustment)).toInt
      let matched (adjustment : BitVec 32) : State :=
        { s with
          track :=
            judged (some r.serial)
              (pre ++ { r with check := .matched, adjustment := adjustment } :: post) }
      (-tol ≤ d → d ≤ tol → ¬ behind →
        judgeEdge e s = expiryTest (matched (ref - r.admission))) ∧
      (-tol ≤ d → d ≤ tol → behind → judgeEdge e s = expiryTest (matched r.adjustment)) ∧
      (d < -tol → s.track.strips.length < 64 →
        judgeEdge e s = expiryTest (made (pre ++ phantom :: r :: post))) ∧
      (d < -tol → 64 ≤ s.track.strips.length → judgeEdge e s = expiryTest untracked)) ∧
    ((∀ q ∈ s.track.strips, q.check = .matched) →
      (s.track.strips.length < 64 →
        judgeEdge e s = expiryTest (made (s.track.strips ++ [phantom]))) ∧
      (64 ≤ s.track.strips.length → judgeEdge e s = expiryTest untracked))

/-- An accepted EYE-CK leading edge is judged once the travel has come 150 mm past its start with the
eye still blocked, or at the accepted trailing edge that follows it, when that is 150 mm or more beyond
it; a trailing edge less than 150 mm beyond it sets the pair aside as a chip that changes no record
(R14). That the judgement by travel reads "still blocked" as the input level, and so waits while the
input is clear with its trailing change pending, is the model's reading (notes/assumptions/12.md). A
trailing edge that closes a judged pair sets the current length of the record matched or created, its
start less E, at most 65,535 (R17); one that starts at or behind E, after reverse travel, gives 0:
model's choice (notes/assumptions/43.md). While an edge is in judgement no candidate expires; otherwise
a candidate beyond Pck and the tolerance is lost, and the next is looked at (R13). A lost record leaves
the track, the lost counter rises and a LOST event carries its number (R16). -/
def Obligations.CheckEyeEdgesAreTaken : Prop :=
  (∀ (e : Travel) (s : State), s.track.ckEdge = .awaiting e →
    (s.track.eyeCk.input = true → 150 ≤ (s.track.travel - e).toInt →
      travelJudgement s = judgeEdge e s) ∧
    ((s.track.eyeCk.input = false ∨ (s.track.travel - e).toInt < 150) → travelJudgement s = s)) ∧
  (∀ s : State, (∀ e, s.track.ckEdge ≠ .awaiting e) → travelJudgement s = s) ∧
  (∀ (start e : Travel) (s : State),
    let gone (u : State) : State := { u with track := { u.track with ckEdge := .none } }
    let len : Int := (start - e).toInt
    (s.track.ckEdge = .none → closeCkEdge start s = s) ∧
    (s.track.ckEdge = .awaiting e → len < 150 → closeCkEdge start s = expiryTest (gone s)) ∧
    (s.track.ckEdge = .awaiting e → 150 ≤ len →
      closeCkEdge start s = gone (setCheckLength start (judgeEdge e s))) ∧
    (s.track.ckEdge = .judged e none → closeCkEdge start s = gone s) ∧
    (∀ id, s.track.ckEdge = .judged e (some id) →
      let lengthened : State :=
        { s with
          track :=
            { s.track with
              strips :=
                stripsWith id (fun q => { q with current := some (min len.toNat 65535) }) s } }
      setCheckLength start s = lengthened ∧ closeCkEdge start s = gone lengthened)) ∧
  ∀ s : State,
    let judging : Prop :=
      (s.track.eyeCk.pending ≠ none ∧ s.track.eyeCk.accepted = false) ∨
        ∃ e, s.track.ckEdge = .awaiting e
    (judging → expiryTest s = s) ∧
    ((∀ q ∈ s.track.strips, q.check = .matched) → expiryTest s = s) ∧
    (∀ pre r post, ¬ judging → s.track.strips = pre ++ r :: post →
      (∀ q ∈ pre, q.check = .matched) → r.check = .unchecked →
      let x : Int := (s.track.travel - (r.admission + r.adjustment)).toInt
      let left : State := leaveTrack r s
      let lost : State :=
        { left with
          track :=
            { left.track with stats := { left.track.stats with lost := s.track.stats.lost + 1 } }
          link := linkAfter [.lost r.number] s }
      (x ≤ s.cfg.line.pck + s.cfg.line.checkTolerance → expiryTest s = s) ∧
      ((s.cfg.line.pck : Int) + s.cfg.line.checkTolerance < x →
        expiryTest s = expiryTest (afterCount lost)))

/-- A record that leaves the track, at whichever end, takes its business with the other blocks with it:
its announce-list entry, and a reception for it goes on DISCARDING (R48); its order, when ORDERED, with
the orders withdrawn counter (R89); its waiting converter requests, each counted withdrawn (R97); an
entry of the evaluation queue, counted withdrawn, the model's choice (R64, notes/assumptions/49.md); its
place in the in-transit count of its bay or the chute, at its drop (R115, R123) and, by the model's
reading, whenever else it leaves (notes/assumptions/15.md). Nothing else changes, an over-gate count
(R122) and a commitment to a bundle (R134) neither: the model's choices (notes/assumptions/48.md and
50.md). What follows the new number of records: at 64 TRACKFULL is added, and RUN goes to HOLD; below 64
it is removed, and HOLD with no other source goes to RUN (R11, R26); in HOLD an empty track gives hold
effective and its event, and a record that enters takes it away with no event (R27); in STOPPING an
empty track completes the stop, after the run-end closure (R31). LAMP-G's phase and the order STATE
before EFFECTIVE are notes/assumptions/35.md and 37.md. -/
def Obligations.RecordsLeaveTheTrack : Prop :=
  (∀ (r : Strip) (s : State),
    let mine (q : ConvRequest) : Bool := q.strip == some r.number
    let heard : Bool := s.scanner.receiving == some r.number
    let oneLess (b : Bay) : SortUnit :=
      { s.sort with
        bays :=
          s.sort.bays.set b { s.sort.bays[b] with inTransit := s.sort.bays[b].inTransit - 1 } }
    leaveTrack r s =
      { s with
        track :=
          { s.track with
            strips := s.track.strips.filter (fun q => q.serial != r.serial)
            inAdmission :=
              if s.track.inAdmission = some r.serial then none else s.track.inAdmission }
        scanner :=
          { s.scanner with
            announces := s.scanner.announces.filter (· != r.number)
            reception := if heard then .discarding else s.scanner.reception
            receiving := if heard then none else s.scanner.receiving }
        saw :=
          if r.cut = .ordered then
            { s.saw with
              orders := s.saw.orders.filter (fun o => o.strip != r.number)
              withdrawn := sat16 s.saw.withdrawn }
          else s.saw
        heads :=
          { s.heads with
            requests := s.heads.requests.filter (fun q => !mine q)
            withdrawn := sat16By s.heads.withdrawn (s.heads.requests.filter mine).length }
        grading :=
          if r.number ∈ s.grading.queue then
            { s.grading with
              queue := s.grading.queue.filter (· != r.number)
              withdrawn := sat16 s.grading.withdrawn }
          else s.grading
        sort := match r.bay with
          | none => s.sort
          | some (.gradedBay b) | some (.regradeBin b) | some (.mixedBin b) => oneLess b
          | some .endChute => { s.sort with chuteInTransit := s.sort.chuteInTransit - 1 } }) ∧
  ∀ s : State,
    let full : Prop := 64 ≤ s.track.strips.length
    let others : List HoldSource := s.sup.holds.filter (· != .trackFull)
    (s.track.strips ≠ [] → s.sup.holdEffective = false →
      ((full ∧ .trackFull ∈ s.sup.holds ∨ ¬ full ∧ .trackFull ∉ s.sup.holds) → afterCount s = s) ∧
      (full → .trackFull ∉ s.sup.holds → s.sup.line ≠ .run →
        afterCount s = { s with sup := { s.sup with holds := holdsWith .trackFull s } }) ∧
      (full → .trackFull ∉ s.sup.holds → s.sup.line = .run →
        afterCount s =
          { s with
            sup :=
              { s.sup with line := .hold, holds := holdsWith .trackFull s, lampG := dimmed s }
            link := linkAfter [.state .hold] s }) ∧
      (¬ full → .trackFull ∈ s.sup.holds → (s.sup.line ≠ .hold ∨ others ≠ []) →
        afterCount s = { s with sup := { s.sup with holds := others } }) ∧
      (¬ full → .trackFull ∈ s.sup.holds → s.sup.line = .hold → others = [] →
        afterCount s =
          { s with
            sup :=
              { s.sup with line := .run, holds := [], guard := guardAtRun s, lampG := none }
            link := linkAfter [.state .run] s })) ∧
    (s.track.strips ≠ [] → s.sup.holdEffective = true → ¬ full → .trackFull ∉ s.sup.holds →
      afterCount s = { s with sup := { s.sup with holdEffective := false } }) ∧
    (s.track.strips = [] → .trackFull ∉ s.sup.holds →
      (s.sup.line = .hold → s.sup.holdEffective = false →
        afterCount s =
          { s with
            sup := { s.sup with holdEffective := true }, link := linkAfter [.effective] s }) ∧
      (s.sup.line = .hold → s.sup.holdEffective = true → afterCount s = s) ∧
      (s.sup.line ≠ .hold → s.sup.line ≠ .stopping → s.sup.holdEffective = false →
        afterCount s = s) ∧
      (s.sup.line = .stopping → s.sup.holdEffective = false →
        let c : State := runEndClosure s
        afterCount s =
          { c with
            sup := stoppedSupervisor s
            store := { s.store with lastCheck := checkResult s.cfg }
            link := linkAfter [.state (stopEnd s)] c }))

/-- A passing event is raised for a record when its leading edge, or its trailing edge once its length
is known, stands at or beyond the event's point and the event has not been raised for it before, once; a
phantom raises none at or before the position where it was made (R12, with the points of its table). It
is asked at each change of travel, reverse too, of every record, farthest first (model's choices,
notes/assumptions/10.md and 13.md). At Psc ANNOUNCE is sent and the strip joins the announce list,
phantoms never (R47). At Pem an order still ORDERED becomes UNCONFIRMED, leaves the order list, counts
in the statistic cut unconfirmed and gives an UNCONFIRMED event (R88). The trailing edge at Pmo and Pem
only ends the period under the head (R100). -/
def Obligations.PassingEventsAreRaised : Prop :=
  (∀ s : State,
    passingEvents s =
      (s.track.strips.map (·.serial)).foldl
        (fun u id =>
          [.pscLead, .pmoSettleLead, .pdpLead, .pemLead, .pemSettleLead, .psaLead, .pbLead,
            .pmoTrail, .pemTrail, .pbTrail, .pendTrail].foldl (raiseEvent id) u) s) ∧
  (∀ (id : Nat) (e : PassEvent) (s : State), s.stripSerial id = none → raiseEvent id s e = s) ∧
  (∀ (id : Nat) (e : PassEvent) (r : Strip) (s : State), s.stripSerial id = some r →
    let l : LineSettings := s.cfg.line
    let drop : Option Nat := match r.bay with
      | some (.gradedBay b) | some (.regradeBin b) | some (.mixedBin b) => some l.pb[b]
      | _ => none
    let point : Option Nat := match e with
      | .pscLead => some l.psc
      | .pmoSettleLead => some (l.pmo + l.settle)
      | .pdpLead => some l.pdp
      | .pemLead => some l.pem
      | .pemSettleLead => some (l.pem + l.settle)
      | .psaLead => some l.psa
      | .pmoTrail => some l.pmo
      | .pemTrail => some l.pem
      | .pendTrail => some l.pend
      | .pbLead | .pbTrail => drop
    let leading : Int := (s.track.travel - (r.admission + r.adjustment)).toInt
    let length : Option Nat := if r.current = none then r.infeed else r.current
    let edge : Option Int :=
      if e = .pmoTrail ∨ e = .pemTrail ∨ e = .pbTrail ∨ e = .pendTrail then
        length.map (fun n => leading - n)
      else some leading
    let due : Prop :=
      e ∉ r.raised ∧ ∃ (p : Nat) (x : Int), point = some p ∧ edge = some x ∧ (p : Int) ≤ x ∧
        ∀ c, r.createdAt = some c → c < p
    (due →
      raiseEvent id s e =
        takeEvent { r with raised := e :: r.raised }
          { s with
            track :=
              { s.track with
                strips := stripsWith id (fun q => { q with raised := e :: q.raised }) s } } e) ∧
    (¬ due → raiseEvent id s e = s)) ∧
  ∀ (r : Strip) (s : State),
    (r.origin = .phantom → takeEvent r s .pscLead = s) ∧
    (r.origin = .admitted →
      takeEvent r s .pscLead =
        { s with
          track :=
            { s.track with
              strips := stripsWith r.serial (fun q => { q with scan := .announced }) s }
          scanner :=
            { s.scanner with
              announces := s.scanner.announces ++ [r.number]
              tx := s.scanner.tx ++ [fieldFrame 0x01 (u16 r.number.toNat)] } }) ∧
    (r.cut ≠ .ordered → takeEvent r s .pemLead = s) ∧
    (r.cut = .ordered →
      takeEvent r s .pemLead =
        { s with
          track :=
            { s.track with
              strips := stripsWith r.serial (fun q => { q with cut := .unconfirmed }) s
              stats :=
                { s.track.stats with cutUnconfirmed := s.track.stats.cutUnconfirmed + 1 } }
          saw := { s.saw with orders := s.saw.orders.filter (fun o => o.strip != r.number) }
          link := linkAfter [.unconfirmed r.number] s }) ∧
    takeEvent r s .pmoTrail = s ∧ takeEvent r s .pemTrail = s

/-! ### The line and its supervision -/

/-- RUN: refused STATE outside READY, the state test made first, and BUSY in READY while a head check
runs; on acceptance the line goes to RUN, or to HOLD with a hold source present, a LONG window starts
when P is not OFF, an enabled guard monitor starts its window afresh, and the reply carries the line
state reached (R23, R27, R29, R42). RESUME is refused STATE outside FAILSAFE; on acceptance a LONG
window starts and the first that applies of the three lines of R38's table chooses the state, a stop
that finds the track empty completing at once (R31, R33, R38). That LAMP-G's cycle begins with its on
phase and that STATE comes before EFFECTIVE are the model's choices (notes/assumptions/35.md and 37.md).
-/
def Obligations.RunAndResumeStartTheLine : Prop :=
  (∀ (tag : Byte) (s : State), Listening s → LineInv s →
    (s.sup.line ≠ .ready →
      exec (.run tag []) s = .next (settle (answered 0x02 tag (.refused .state 0) s))) ∧
    (s.sup.line = .ready → s.heads.check = .running →
      exec (.run tag []) s = .next (settle (answered 0x02 tag (.refused .busy 0) s))) ∧
    (s.sup.line = .ready → s.heads.check ≠ .running → s.sup.holds = [] →
      exec (.run tag []) s =
        .next (settle
          { s with
            sup :=
              { s.sup with
                line := .run
                holdEffective := false
                window := longWindow s
                guard :=
                  if s.cfg.supervision.guardEnable then .watching (s.now + 1000) else .inactive
                lampG := none }
            link := linkReplied 0x02 tag (.accepted [2]) [.state .run] s })) ∧
    (s.sup.line = .ready → s.heads.check ≠ .running → s.sup.holds ≠ [] →
      exec (.run tag []) s =
        .next (settle
          { s with
            sup :=
              { s.sup with
                line := .hold
                holdEffective := s.track.strips.isEmpty
                window := longWindow s
                guard :=
                  if s.cfg.supervision.guardEnable then .watching (s.now + 1000) else .inactive
                lampG := dimmed s }
            link := linkReplied 0x02 tag (.accepted [3]) (holdEvents s) s }))) ∧
  ∀ (tag : Byte) (s : State), Listening s →
    (s.sup.line ≠ .failsafe →
      exec (.resume tag []) s = .next (settle (answered 0x06 tag (.refused .state 0) s))) ∧
    (s.sup.line = .failsafe → s.sup.stopPending = true → s.track.strips ≠ [] →
      exec (.resume tag []) s =
        .next (settle
          { s with
            sup :=
              { s.sup with
                line := .stopping
                stopPending := false
                holdEffective := false
                window := longWindow s
                lampG := dimmed s }
            link := linkReplied 0x06 tag (.accepted [4]) [.state .stopping] s })) ∧
    (s.sup.line = .failsafe → s.sup.stopPending = true → s.track.strips = [] →
      let c := runEndClosure s
      exec (.resume tag []) s =
        .next (settle
          { c with
            sup := { stoppedSupervisor s with stopPending := false }
            store := { s.store with lastCheck := checkResult s.cfg }
            link :=
              linkReplied 0x06 tag (.accepted [BitVec.ofNat 8 (stopEnd s).code])
                [.state (stopEnd s)] c })) ∧
    (s.sup.line = .failsafe → s.sup.stopPending = false → s.sup.holds ≠ [] →
      exec (.resume tag []) s =
        .next (settle
          { s with
            sup :=
              { s.sup with
                line := .hold
                holdEffective := s.track.strips.isEmpty
                window := longWindow s
                lampG := dimmed s }
            link := linkReplied 0x06 tag (.accepted [3]) (holdEvents s) s })) ∧
    (s.sup.line = .failsafe → s.sup.stopPending = false → s.sup.holds = [] →
      exec (.resume tag []) s =
        .next (settle
          { s with
            sup :=
              { s.sup with
                line := .run
                holdEffective := false
                window := longWindow s
                guard := guardAtRun s
                lampG := none }
            link := linkReplied 0x06 tag (.accepted [2]) [.state .run] s }))

/-- STOP is accepted in every line state: in RUN and HOLD the line goes to STOPPING, and with the track
empty the stop completes at once, after the run-end closure; in FAILSAFE stop pending is set; elsewhere
nothing changes. The reply carries the line state and stop pending after the request (R30, R31, R191).
HOLD adds HOST to the hold-source set and RELEASE removes it, in every line state; RUN goes to HOLD with
the first source and HOLD to RUN with the removal of the last; the reply carries the set after the
request (R25, R26, R32). That LAMP-G's cycle begins with its on phase, that a running cycle goes on in
phase from HOLD to STOPPING (R42) and that STATE comes before EFFECTIVE are the model's choices
(notes/assumptions/35.md and 37.md). -/
def Obligations.StopHoldAndReleaseAct : Prop :=
  (∀ (tag : Byte) (s : State), Listening s →
    let pending : Byte := if s.sup.stopPending then 1 else 0
    ((s.sup.line = .run ∨ s.sup.line = .hold) → s.track.strips ≠ [] →
      exec (.stop tag []) s =
        .next (settle
          { s with
            sup := { s.sup with line := .stopping, holdEffective := false, lampG := dimmed s }
            link := linkReplied 0x03 tag (.accepted [4, pending]) [.state .stopping] s })) ∧
    ((s.sup.line = .run ∨ s.sup.line = .hold) → s.track.strips = [] →
      let c := runEndClosure s
      exec (.stop tag []) s =
        .next (settle
          { c with
            sup := stoppedSupervisor s
            store := { s.store with lastCheck := checkResult s.cfg }
            link :=
              linkReplied 0x03 tag (.accepted [BitVec.ofNat 8 (stopEnd s).code, pending])
                [.state (stopEnd s)] c })) ∧
    (s.sup.line = .failsafe →
      exec (.stop tag []) s =
        .next (settle
          { s with
            sup := { s.sup with stopPending := true }
            link := linkReplied 0x03 tag (.accepted [5, 1]) [] s })) ∧
    ((s.sup.line = .stopping ∨ s.sup.line = .ready ∨ s.sup.line = .start) →
      exec (.stop tag []) s =
        .next (settle
          (answered 0x03 tag (.accepted [BitVec.ofNat 8 s.sup.line.code, pending]) s)))) ∧
  ∀ (tag : Byte) (s : State), Listening s →
    let bits (hs : List HoldSource) : List Byte := [BitVec.ofNat 8 (setBits HoldSource.all hs)]
    let without : List HoldSource := s.sup.holds.filter (· != .host)
    (.host ∈ s.sup.holds →
      exec (.hold tag []) s = .next (settle (answered 0x04 tag (.accepted (bits s.sup.holds)) s))) ∧
    (.host ∉ s.sup.holds → s.sup.line ≠ .run →
      exec (.hold tag []) s =
        .next (settle
          { s with
            sup := { s.sup with holds := holdsWith .host s }
            link := linkReplied 0x04 tag (.accepted (bits (holdsWith .host s))) [] s })) ∧
    (.host ∉ s.sup.holds → s.sup.line = .run →
      exec (.hold tag []) s =
        .next (settle
          { s with
            sup :=
              { s.sup with
                line := .hold
                holds := holdsWith .host s
                holdEffective := s.track.strips.isEmpty
                lampG := dimmed s }
            link := linkReplied 0x04 tag (.accepted (bits (holdsWith .host s))) (holdEvents s) s })) ∧
    (.host ∉ s.sup.holds →
      exec (.release tag []) s =
        .next (settle (answered 0x05 tag (.accepted (bits s.sup.holds)) s))) ∧
    (.host ∈ s.sup.holds → (s.sup.line ≠ .hold ∨ without ≠ []) →
      exec (.release tag []) s =
        .next (settle
          { s with
            sup := { s.sup with holds := without }
            link := linkReplied 0x05 tag (.accepted (bits without)) [] s })) ∧
    (.host ∈ s.sup.holds → s.sup.line = .hold → without = [] →
      exec (.release tag []) s =
        .next (settle
          { s with
            sup :=
              { s.sup with
                line := .run
                holds := []
                holdEffective := false
                guard := guardAtRun s
                lampG := none }
            link := linkReplied 0x05 tag (.accepted [0]) [.state .run] s }))

/-- A KEEPALIVE is IGNORED with no window, VALID in a LONG window or in the open part of a NORMAL one,
where a NORMAL window of period P starts, and EARLY in the closed part, the first 40 % (R33, R34); an
EARLY one and a window's expiry are keep-alive faults, which latch the alarm, give the event, and move
the line to FAILSAFE (R35, R36). Before its end a window does not expire. The guard monitor: GUARD's
level is followed; an edge that has stayed high for 1 ms is accepted once and restarts the window, and
in LAPSED takes GUARD out of the hold-source set with a RESTORED event; an expiry while WATCHING adds
GUARD, latches alarm GUARD and gives EXPIRED (R39). That LAMP-G's cycle begins with its on phase and
that STATE comes before EFFECTIVE, EXPIRED and RESTORED are the model's choices (notes/assumptions/35.md
and 37.md). -/
def Obligations.KeepAliveAndGuardAreMonitored : Prop :=
  (∀ (tag : Byte) (s : State), Listening s →
    let line : Byte := BitVec.ofNat 8 s.sup.line.code
    (s.sup.window = .none →
      exec (.keepalive tag []) s =
        .next (settle (answered 0x07 tag (.accepted [0, line]) s))) ∧
    (((∃ t, s.sup.window = .long t) ∨
        ∃ t p, s.sup.window = .normal t p ∧ t + 4 * p * 2 / 5 ≤ s.now) →
      exec (.keepalive tag []) s =
        .next (settle
          { s with
            sup :=
              { s.sup with
                window :=
                  match s.cfg.supervision.period.millis with
                  | some p => .normal s.now p
                  | none => .none }
            link := linkReplied 0x07 tag (.accepted [1, line]) [] s })) ∧
    (∀ t p, s.sup.window = .normal t p → s.now < t + 4 * p * 2 / 5 → s.sup.line ≠ .failsafe →
      exec (.keepalive tag []) s =
        .next (settle
          { s with
            sup := faultedSupervisor s
            link :=
              linkReplied 0x07 tag (.accepted [2, 5]) [.early s.sup.line, .state .failsafe] s })) ∧
    (((∃ t, s.sup.window = .long t ∧ t + 20000 ≤ s.now) ∨
        ∃ t p, s.sup.window = .normal t p ∧ t + 4 * p ≤ s.now) → s.sup.line ≠ .failsafe →
      exec .keepaliveWindowExpiry s =
        .next (settle
          { s with
            sup := faultedSupervisor s
            link := linkAfter [.late s.sup.line, .state .failsafe] s })) ∧
    ((s.sup.window = .none ∨ (∃ t, s.sup.window = .long t ∧ s.now < t + 20000) ∨
        ∃ t p, s.sup.window = .normal t p ∧ s.now < t + 4 * p) →
      exec .keepaliveWindowExpiry s = .next (settle s))) ∧
  (∀ s : State, s.powered = true →
    let without : List HoldSource := s.sup.holds.filter (· != .guard)
    (∀ b, s.sup.guardHigh ≠ b →
      exec (.guardInputChange b) s =
        .next (settle
          { s with
            sup :=
              { s.sup with
                guardHigh := b, guardHighSince := if b then some s.now else none } })) ∧
    (exec (.guardInputChange s.sup.guardHigh) s = .next (settle s)) ∧
    (∀ t, s.sup.guardHigh = true → s.sup.guardHighSince = some t → t + 4 ≤ s.now →
      (s.sup.guard = .inactive →
        exec .guardEdgeAccepted s =
          .next (settle { s with sup := { s.sup with guardHighSince := none } })) ∧
      (∀ e, s.sup.guard = .watching e →
        exec .guardEdgeAccepted s =
          .next (settle
            { s with
              sup :=
                { s.sup with guardHighSince := none, guard := .watching (s.now + 1000) } })) ∧
      (s.sup.guard = .lapsed → .guard ∈ s.sup.holds → (s.sup.line ≠ .hold ∨ without ≠ []) →
        exec .guardEdgeAccepted s =
          .next (settle
            { s with
              sup :=
                { s.sup with
                  guardHighSince := none, guard := .watching (s.now + 1000), holds := without }
              link := linkAfter [.guardRestored] s })) ∧
      (s.sup.guard = .lapsed → .guard ∈ s.sup.holds → s.sup.line = .hold → without = [] →
        exec .guardEdgeAccepted s =
          .next (settle
            { s with
              sup :=
                { s.sup with
                  guardHighSince := none
                  guard := .watching (s.now + 1000)
                  line := .run
                  holds := []
                  holdEffective := false
                  lampG := none }
              link := linkAfter [.state .run, .guardRestored] s }))) ∧
    (∀ t, s.sup.guardHigh = true → s.sup.guardHighSince = some t → t + 4 ≤ s.now →
      s.sup.guard = .lapsed → .guard ∉ s.sup.holds →
      exec .guardEdgeAccepted s =
        .next (settle
          { s with
            sup := { s.sup with guardHighSince := none, guard := .watching (s.now + 1000) }
            link := linkAfter [.guardRestored] s })) ∧
    ((s.sup.guardHigh = false ∨ s.sup.guardHighSince = none ∨
        ∃ t, s.sup.guardHighSince = some t ∧ s.now < t + 4) →
      exec .guardEdgeAccepted s = .next (settle s)) ∧
    (∀ t, s.sup.guard = .watching t → t ≤ s.now → .guard ∉ s.sup.holds →
      (s.sup.line ≠ .run →
        exec .guardWindowExpiry s =
          .next (settle
            { s with
              sup :=
                { s.sup with
                  guard := .lapsed, holds := holdsWith .guard s, alarms := alarmsWith .guard s }
              link := linkAfter [.guardExpired] s })) ∧
      (s.sup.line = .run →
        exec .guardWindowExpiry s =
          .next (settle
            { s with
              sup :=
                { s.sup with
                  guard := .lapsed
                  holds := holdsWith .guard s
                  alarms := alarmsWith .guard s
                  line := .hold
                  holdEffective := s.track.strips.isEmpty
                  lampG := dimmed s }
              link := linkAfter (holdEvents s ++ [.guardExpired]) s }))) ∧
    ((s.sup.guard = .inactive ∨ s.sup.guard = .lapsed ∨ ∃ t, s.sup.guard = .watching t ∧ s.now < t) →
      exec .guardWindowExpiry s = .next (settle s)))

/-- ALARM CLEAR is accepted in every line state, removes every alarm whose cause is absent by R40's
table and lists those that remain, in the list's order; it changes no hold source and no head fault
(R41). -/
def Obligations.AlarmClearKeepsLivingCauses : Prop :=
  ∀ (tag : Byte) (s : State), Listening s →
    let keeps : Alarm → Bool
      | .keepAlive => decide (s.sup.line = .failsafe)
      | .guard => decide (.guard ∈ s.sup.holds)
      | .head n => s.heads.records[n].latched.isSome
      | .temp => decide (.temp ∈ s.sup.holds)
      | .saw => s.track.strips.any (fun r => decide (r.cut = .faulted))
      | .config => decide (s.sup.line = .start)
    let left : List Alarm := s.sup.alarms.filter keeps
    (s.sup.alarms.Sublist Alarm.all → left.Sublist Alarm.all) ∧
    exec (.alarmClear tag []) s =
      .next (settle
        { s with
          sup := { s.sup with alarms := left }
          link :=
            linkReplied 0x08 tag
              (.accepted (BitVec.ofNat 8 left.length :: left.flatMap Alarm.bytes)) [] s })

/-! ### The field lines and the scanner -/

/-- A discarded frame of a field line raises that line's counter, gives its source a LINE event, and, on
the scanner line, marks a scan being received damaged and counts a scanner fault (R46, R56, R82, R166);
a partial frame is abandoned so once more than 2 ms have passed since its last byte, and a frame whose
check is good is discarded when it is no message of 13.5, by its kind or its length. The bytes a frame's
length counts are collected. A byte between frames starts a frame only when it is 0xC3; that another is
ignored, and that a length of 0 is discarded, is notes/assumptions/25.md. -/
def Obligations.FieldLineErrorsAreCounted : Prop :=
  ∀ s : State, s.powered = true →
    let bad : FieldLine → State
      | .scanner =>
        { s with
          track := s.track.scannerFault
          scanner :=
            { s.scanner.hunting with
              lineErrors := sat16 s.scanner.lineErrors
              damaged := s.scanner.damaged || s.scanner.reception == .receiving }
          link := linkAfter [.scannerLine] s }
      | .saw =>
        { s with
          saw := { s.saw.hunting with lineErrors := sat16 s.saw.lineErrors }
          link := linkAfter [.sawLine] s }
      | .printer =>
        { s with
          printer := { s.printer.hunting with lineErrors := sat16 s.printer.lineErrors }
          link := linkAfter [.printerLine] s }
    ∀ line : FieldLine,
      exec (.fieldFrameDiscarded line) s = .next (settle (bad line)) ∧
      ((s.fieldRx line).stage ≠ .hunt → (s.fieldRx line).lastByte + 8 < s.now →
        exec (.fieldGapTimeout line) s = .next (settle (bad line))) ∧
      (((s.fieldRx line).stage = .hunt ∨ s.now ≤ (s.fieldRx line).lastByte + 8) →
        exec (.fieldGapTimeout line) s = .next (settle s)) ∧
      (∀ b : Byte, (s.fieldRx line).stage = .hunt →
        exec (.fieldByteArrival line b) s =
          .next (settle
            (setFieldRx line
              { stage := if b = 0xC3 then .length else .hunt, lastByte := s.now } s))) ∧
      (∀ b : Byte, (s.fieldRx line).stage = .length → s.now ≤ (s.fieldRx line).lastByte + 8 →
        exec (.fieldByteArrival line b) s =
          .next (settle
            (if b = 0 then setFieldRx line { stage := .hunt, lastByte := s.now } (bad line)
            else setFieldRx line { stage := .collect b.toNat [], lastByte := s.now } s))) ∧
      (∀ b : Byte, (s.fieldRx line).stage ≠ .hunt → (s.fieldRx line).lastByte + 8 < s.now →
        exec (.fieldByteArrival line b) s =
          .next (settle
            (setFieldRx line
              { stage := if b = 0xC3 then .length else .hunt, lastByte := s.now } (bad line)))) ∧
      (∀ (b : Byte) (len : Nat) (kept : List Byte), (s.fieldRx line).stage = .collect len kept →
        s.now ≤ (s.fieldRx line).lastByte + 8 →
        exec (.fieldByteArrival line b) s =
          .next (settle
            (setFieldRx line
              { stage :=
                  if kept.length + 1 < len then .collect len (kept ++ [b])
                  else .check len (kept ++ [b])
                lastByte := s.now } s))) ∧
      (∀ (b : Byte) (len : Nat) (kept : List Byte), (s.fieldRx line).stage = .check len kept →
        s.now ≤ (s.fieldRx line).lastByte + 8 → kept.length = len → len ≤ 255 →
        crc8 (BitVec.ofNat 8 len :: kept) = b →
        (∀ c, fieldFrameOf c ≠ some (line, 0xC3 :: BitVec.ofNat 8 len :: kept ++ [b])) →
        exec (.fieldByteArrival line b) s =
          .next (settle (setFieldRx line { stage := .hunt, lastByte := s.now } (bad line)))) ∧
      (∀ (b : Byte) (len : Nat) (kept : List Byte), (s.fieldRx line).stage = .check len kept →
        s.now ≤ (s.fieldRx line).lastByte + 8 → crc8 (BitVec.ofNat 8 len :: kept) ≠ b →
        exec (.fieldByteArrival line b) s =
          .next (settle (setFieldRx line { stage := .hunt, lastByte := s.now } (bad line))))

/-- A START in IDLE: for the strip at the head of the announce list the reception opens with an empty
defect list; entries ahead of it are removed as missed; one whose record already holds a cut plan is too
late, the entries ahead of it being removed uncounted; one not in the list is unmatched. Both of the
last leave the reception DISCARDING (R50, R53, R56). While a scan is received for a strip whose record
holds no cut plan, a DEFECT in its ranges is stored, one beyond the sixteenth truncates the scan, and
one out of a range is rejected and marks the scan damaged (R52). An END with the strip's number and the
count received ends the scan TRUNCATED or COMPLETE, a complete scan of a measured strip being offered
for evaluation; one with another count, or after damage, INCOMPLETE; one naming another strip INCOMPLETE
with a sequence error; a JOINED strip is not handed over (R54, R55). A START while RECEIVING first ends
the scan so, and while DISCARDING ends the discard; it is then judged as in IDLE (R51). Once the record
holds a cut plan the report is cut off as too late: a DEFECT leaves the reception DISCARDING, an END or
START ends it (R51, R53). A DEFECT or END in IDLE is a sequence error; in DISCARDING a DEFECT is dropped
and an END makes the reception IDLE (R49, R54). That the received count and the damaged mark keep their
values when a scan ends or is too late is the model's choice (notes/assumptions/40.md). -/
def Obligations.ScansAreJudged : Prop :=
  (∀ (n : StripNo) (ahead rest : List StripNo) (s : State), s.powered = true →
    s.scanner.reception = .idle →
    let opened : Strip → Strip := fun q => { q with scan := .receiving, defects := some [] }
    (s.scanner.announces = n :: rest → (∀ r, s.stripNo n = some r → r.plan = none) →
      exec (.scannerStart n) s =
        .next (settle
          { s with
            track := trackWith n opened s
            scanner :=
              { s.scanner.hunting with
                announces := rest
                reception := .receiving
                receiving := some n
                received := 0
                damaged := false } })) ∧
    (∀ a pre, ahead = a :: pre → n ∉ ahead → s.scanner.announces = ahead ++ n :: rest →
      (∀ r, s.stripNo n = some r → r.plan = none) →
      exec (.scannerStart n) s =
        .next (settle
          { s with
            track :=
              TrackUnit.scannerFault
                { s.track with
                  strips := s.track.strips.map (fun r =>
                    if r.number = 0 then r
                    else if r.number = n then opened r
                    else if r.number ∈ ahead ∧ r.plan = none then { r with scan := .missed }
                    else r) }
            scanner :=
              { s.scanner.hunting with
                announces := rest
                reception := .receiving
                receiving := some n
                received := 0
                damaged := false
                missed := sat16By s.scanner.missed ahead.length }
            link := linkAfter [.missed ahead.length a] s })) ∧
    (∀ r, n ∉ ahead → s.scanner.announces = ahead ++ n :: rest → s.stripNo n = some r →
      r.plan ≠ none →
      exec (.scannerStart n) s =
        .next (settle
          { s with
            track :=
              (trackWith n (fun q =>
                if q.scan == .announced then { q with scan := .missed } else q) s).scannerFault
            scanner :=
              { s.scanner.hunting with
                announces := rest
                reception := .discarding
                receiving := none
                tooLate := sat16 s.scanner.tooLate }
            link := linkAfter [.tooLate n] s })) ∧
    (n ∉ s.scanner.announces →
      exec (.scannerStart n) s =
        .next (settle
          { s with
            track := s.track.scannerFault
            scanner :=
              { s.scanner.hunting with
                reception := .discarding
                receiving := none
                unmatched := sat16 s.scanner.unmatched }
            link := linkAfter [.unmatched n] s }))) ∧
  (∀ (n : StripNo) (r : Strip) (kind : Byte) (position extent : BitVec 16) (severity count : Byte)
    (s : State), s.powered = true →
    let d : Defect :=
      { kind := kind.toNat, position := position.toNat, extent := extent.toNat
        severity := severity.toNat }
    let inRange : Bool :=
      1 ≤ d.kind && d.kind ≤ 6 && d.position ≤ 2599 && 1 ≤ d.extent && d.extent ≤ 2600 &&
        1 ≤ d.severity && d.severity ≤ 255
    let received : Nat := min (s.scanner.received + 1) 255
    (s.scanner.reception = .receiving → s.scanner.receiving = some n → s.stripNo n = some r →
      r.plan = none →
      (inRange = true → (r.defects.getD []).length < 16 →
        exec (.defect kind position extent severity) s =
          .next (settle
            { s with
              track := trackWith n (fun q => { q with defects := some (r.defects.getD [] ++ [d]) }) s
              scanner := { s.scanner.hunting with received := received } })) ∧
      (inRange = true → 16 ≤ (r.defects.getD []).length → r.scan = .receiving →
        exec (.defect kind position extent severity) s =
          .next (settle
            { s with
              track := trackWith n (fun q => { q with scan := .truncated }) s
              scanner :=
                { s.scanner.hunting with
                  received := received, truncated := sat16 s.scanner.truncated } })) ∧
      (inRange = false →
        exec (.defect kind position extent severity) s =
          .next (settle
            { s with
              scanner :=
                { s.scanner.hunting with
                  received := received, damaged := true
                  rejected := sat16 s.scanner.rejected } })) ∧
      (s.scanner.received = count.toNat → s.scanner.damaged = false → r.scan = .receiving →
        (r.joined = true ∨ r.infeed = none) →
        exec (.scannerEnd n count) s =
          .next (settle
            { s with
              track := trackWith n (fun q => { q with scan := .complete }) s
              scanner := { s.scanner.hunting with reception := .idle, receiving := none } })) ∧
      ((s.scanner.received ≠ count.toNat ∨ s.scanner.damaged = true) → r.joined = false →
        exec (.scannerEnd n count) s =
          .next (settle
            { s with
              track := trackWith n (fun q => { q with scan := .incomplete, eval := .done }) s
              scanner :=
                { s.scanner.hunting with
                  reception := .idle, receiving := none
                  incomplete := sat16 s.scanner.incomplete } }))) ∧
    (s.scanner.reception = .idle →
      exec (.defect kind position extent severity) s =
        .next (settle
          { s with
            track := s.track.scannerFault
            scanner := { s.scanner.hunting with sequence := sat16 s.scanner.sequence }
            link := linkAfter [.sequence none] s }) ∧
      exec (.scannerEnd n count) s =
        .next (settle
          { s with
            track := s.track.scannerFault
            scanner := { s.scanner.hunting with sequence := sat16 s.scanner.sequence }
            link := linkAfter [.sequence (some n)] s })) ∧
    (s.scanner.reception = .discarding →
      exec (.defect kind position extent severity) s =
        .next (settle { s with scanner := s.scanner.hunting }) ∧
      exec (.scannerEnd n count) s =
        .next (settle
          { s with
            scanner := { s.scanner.hunting with reception := .idle, receiving := none } }))) ∧
  ∀ (m n : StripNo) (r : Strip) (kind : Byte) (position extent : BitVec 16) (severity count : Byte)
    (s : State), s.powered = true →
    (s.scanner.reception = .receiving → s.scanner.receiving = some m → s.stripNo m = some r →
      let ended (reception : Reception) : ScannerPort :=
        { s.scanner.hunting with reception := reception, receiving := none }
      let cut (reception : Reception) : State :=
        { s with
          track :=
            (trackWith m (fun q =>
              if q.scan == .receiving then { q with scan := .missed } else q) s).scannerFault
          scanner := { ended reception with tooLate := sat16 s.scanner.tooLate }
          link := linkAfter [.tooLate m] s }
      let incomplete : Strip → Strip := fun q =>
        if r.joined then { q with scan := .incomplete }
        else { q with scan := .incomplete, eval := .done }
      let broken : State :=
        { s with
          track := (trackWith m incomplete s).scannerFault
          scanner :=
            { ended .idle with
              incomplete := sat16 s.scanner.incomplete, sequence := sat16 s.scanner.sequence }
          link := linkAfter [.sequence (some m)] s }
      (r.plan ≠ none →
        exec (.defect kind position extent severity) s = .next (settle (cut .discarding)) ∧
        exec (.scannerEnd n count) s = .next (settle (cut .idle)) ∧
        exec (.scannerStart n) s = exec (.scannerStart n) (cut .idle)) ∧
      (r.plan = none →
        exec (.scannerStart n) s = exec (.scannerStart n) broken ∧
        (n ≠ m → exec (.scannerEnd n count) s = .next (settle broken)) ∧
        ((s.scanner.received ≠ count.toNat ∨ s.scanner.damaged = true) → r.joined = true →
          exec (.scannerEnd m count) s =
            .next (settle
              { s with
                track := trackWith m incomplete s
                scanner := { ended .idle with incomplete := sat16 s.scanner.incomplete } })) ∧
        (s.scanner.received = count.toNat → s.scanner.damaged = false →
          (r.scan = .truncated →
            exec (.scannerEnd m count) s =
              .next (settle
                { s with
                  track :=
                    trackWith m (fun q =>
                      if r.joined then { q with scan := .truncated }
                      else { q with scan := .truncated, eval := .done }) s
                  scanner := ended .idle })) ∧
          (r.scan = .receiving → r.joined = false → r.infeed ≠ none →
            exec (.scannerEnd m count) s =
              .next (settle
                (offer m
                  { s with
                    track := trackWith m (fun q => { q with scan := .complete }) s
                    scanner := ended .idle })))) ∧
        (r.scan = .truncated → 16 ≤ (r.defects.getD []).length →
          1 ≤ kind.toNat → kind.toNat ≤ 6 → position.toNat ≤ 2599 → 1 ≤ extent.toNat →
          extent.toNat ≤ 2600 → 1 ≤ severity.toNat →
          exec (.defect kind position extent severity) s =
            .next (settle
              { s with
                scanner :=
                  { s.scanner.hunting with
                    received := min (s.scanner.received + 1) 255 } })))) ∧
    (s.scanner.reception = .discarding →
      exec (.scannerStart n) s =
        exec (.scannerStart n)
          { s with scanner := { s.scanner with reception := .idle, receiving := none } })

/-! ### Grading and the saw -/

/-- A graded evaluation's result fits the strip and the tables: its class and grade are admitted, its
raw length is the class nominal plus the trim gap, its window lies between the head and tail allowances,
and its merit is nominal times price and above 0 (R68 to R75); it examines at most 33 windows a class
(R70). The default plan is the highest class that fits, from the head allowance (R69, R78). The windows
examined are those of every class up to the top class at the head offsets H0 + j·Q, j up to 31, that
leave the tail trim, and the tail-aligned one, classes descending and offsets ascending (R70); a defect
counts in a window when its span, cut off at the strip's end, and the window share a millimetre (R67,
R71); a window's grade is the smallest that admits the severities and the number of its counted defects
of every kind, or none (R72). Of the windows, in that order, the evaluation's result is the first whose
merit no other exceeds, and it is PASS NO VALUE exactly when no window of a strip that is not too short
has a merit above 0 (R70, R73 to R75). -/
def Obligations.EvaluationResultsFit : Prop :=
  ((∀ (i : EvalInputs) (k c g h r m : Nat), 1 ≤ i.classes.n → evaluate i = (k, .graded c g h r m) →
    c < i.classes.n ∧ 1 ≤ g ∧ g ≤ i.grades.count ∧ g ≤ 8 ∧
      r = i.classes.m + c * i.classes.s + i.cutting.tg ∧
      i.cutting.h0 ≤ h ∧ h + r + i.cutting.t0 ≤ i.length ∧
      m = (i.classes.m + c * i.classes.s) * priceOf i.prices g c ∧ 0 < m) ∧
  (∀ i : EvalInputs, 1 ≤ i.classes.n → (evaluate i).1 ≤ 33 * i.classes.n) ∧
  (∀ i : EvalInputs, (evaluate i).2 = .pass .short ↔
    (i.length : Int) - i.cutting.h0 - i.cutting.t0 - i.cutting.tg < i.classes.m) ∧
  ∀ (cfg : WorkingConfig) (len : Nat) (reason why : Reason) (c h r : Nat),
    1 ≤ cfg.classes.n → 1 ≤ cfg.classes.s → defaultPlan cfg len reason = .default why c h r →
    why = reason ∧ c < cfg.classes.n ∧ h = cfg.cutting.h0 ∧
      r = cfg.classes.m + c * cfg.classes.s + cfg.cutting.tg ∧
      h + r + cfg.cutting.t0 ≤ len ∧
      (c + 1 = cfg.classes.n ∨ len < h + (r + cfg.classes.s) + cfg.cutting.t0)) ∧
  (∀ i : EvalInputs,
    (i.classes.m : Int) ≤ usableSpan i.cutting i.length →
    let vs : List Valued :=
      (windows i.classes i.cutting i.length
          (topClass i.classes (usableSpan i.cutting i.length))).map
        (valueWindow i (spans i.length i.defects))
    (∀ k c g h r m, evaluate i = (k, .graded c g h r m) →
      ∃ pre v post, vs = pre ++ v :: post ∧ v.window = { cls := c, offset := h, width := r } ∧
        v.grade = some g ∧ v.merit = m ∧ (∀ x ∈ pre, x.merit < m) ∧ ∀ x ∈ post, x.merit ≤ m) ∧
    ((evaluate i).2 = .pass .noValue ↔ ∀ x ∈ vs, x.merit = 0) ∧ (evaluate i).1 = vs.length) ∧
  (∀ i : EvalInputs,
    (i.classes.m : Int) ≤ usableSpan i.cutting i.length → 1 ≤ i.cutting.q →
    let top : Nat := topClass i.classes (usableSpan i.cutting i.length)
    let ws : List CutWindow := windows i.classes i.cutting i.length top
    (∀ w, w ∈ ws ↔
      w.cls ≤ top ∧ w.width = i.classes.m + w.cls * i.classes.s + i.cutting.tg ∧
        (w.offset + w.width + i.cutting.t0 = i.length ∨
          w.offset + w.width + i.cutting.t0 ≤ i.length ∧
            ∃ j : Fin 32, w.offset = i.cutting.h0 + j.val * i.cutting.q)) ∧
    ws.Pairwise (fun v w => w.cls < v.cls ∨ w.cls = v.cls ∧ v.offset < w.offset)) ∧
  ∀ (i : EvalInputs) (w : CutWindow),
    let hits (k : Fin 6) : List Defect :=
      i.defects.filter (fun d =>
        d.kind == k.val + 1 && d.position < i.length && d.position < w.offset + w.width &&
          w.offset < min (d.position + d.extent) i.length)
    let admits (g : Fin 8) : Prop :=
      ∀ k : Fin 6,
        (∀ d ∈ hits k, d.severity ≤ (i.grades.grades[g].limits[k]).sevMax) ∧
          ((i.grades.grades[g].limits[k]).cntMax = 15 ∨
            (hits k).length ≤ (i.grades.grades[g].limits[k]).cntMax)
    let v : Valued := valueWindow i (spans i.length i.defects) w
    v.window = w ∧
    (∀ g : Fin 8, v.grade = some (g.val + 1) ↔
      g.val < i.grades.count ∧ admits g ∧ ∀ f < g, ¬ admits f) ∧
    (v.grade = none ↔ ∀ g : Fin 8, g.val < i.grades.count → ¬ admits g) ∧
    (v.grade = none → v.merit = 0) ∧
    ∀ (g : Fin 8) (c : Fin 16), v.grade = some (g.val + 1) → w.cls = c.val →
      v.merit = (i.classes.m + c.val * i.classes.s) * (i.prices[g])[c]

/-- The completion of the evaluation in flight holds its result with the record, keeps it as the last
evaluation, and lets the engine begin the entry at the head of the queue; that of an evaluation
abandoned at Pdp or by a reset, whose serial is not the one in flight, changes nothing (R66, R77, R81;
the serials are notes/assumptions/21.md). An offer joins the tail of a queue of fewer than 8 entries,
its record QUEUED, and counts as refused otherwise (R55, R64). An idle engine begins the strip at the
head with its infeed length, its defects and the tables as they stand, and one that is busy or has no
entry does nothing (R65). -/
def Obligations.EvaluationsCompleteInOrder : Prop :=
  (∀ (k : Nat) (s : State), s.powered = true →
    (∀ i, s.grading.inFlight = some i → i.serial ≠ k) →
    exec (.evaluationCompletion k) s = .next (settle s)) ∧
  (∀ (i : EvalInputs) (s : State), s.powered = true → s.grading.inFlight = some i →
    let done : Strip → Strip := fun q =>
      if q.eval == .evaluating then { q with eval := .done, result := some (evaluate i).2 } else q
    let last : LastEvaluation :=
      { strip := i.strip, windows := (evaluate i).1, result := (evaluate i).2 }
    exec (.evaluationCompletion i.serial) s =
      .next (settle
        (engineBegin
          { s with
            track := trackWith i.strip done s
            grading :=
              { s.grading with
                inFlight := none, last := some last
                completed := sat16 s.grading.completed } }))) ∧
  (∀ (n : StripNo) (s : State),
    (s.grading.queue.length < 8 →
      offer n s =
        engineBegin
          { s with
            track := trackWith n (fun q => { q with eval := .queued }) s
            grading := { s.grading with queue := s.grading.queue ++ [n] } }) ∧
    (8 ≤ s.grading.queue.length →
      offer n s = { s with grading := { s.grading with refused := sat16 s.grading.refused } })) ∧
  ∀ s : State,
    ((s.grading.inFlight ≠ none ∨ s.grading.queue = []) → engineBegin s = s) ∧
    (∀ m rest r, s.grading.inFlight = none → s.grading.queue = m :: rest → s.stripNo m = some r →
      engineBegin s =
        { s with
          track := trackWith m (fun q => { q with eval := .evaluating }) s
          grading :=
            { s.grading with
              queue := rest
              nextEvaluation := s.grading.nextEvaluation + 1
              inFlight :=
                some
                  { serial := s.grading.nextEvaluation, strip := m
                    length := r.infeed.getD 0, defects := r.defects.getD []
                    classes := s.cfg.classes, grades := s.cfg.grades, prices := s.cfg.prices
                    cutting := s.cfg.cutting } } })

/-- At Pdp the cut plan is written by the first row of R76's table that applies: JOINED, PASS JOINED; no
infeed length, PASS NO VALUE; an evaluation DONE with a result, that result; EVALUATING or QUEUED, the
default plan LATE, the evaluation abandoned or the entry withdrawn and counted; a scan TRUNCATED or
INCOMPLETE, UNRATED; a complete scan, LATE; any other, NOSCAN (R76, R78). A late decision counts in its
statistic and gives a LATE event with its case, unless the default gave way to PASS SHORT (R79). The
engine then acts under R65, and an ORDER of the plan's form goes to the saw: the order joins the list,
the cut state becomes ORDERED and orders sent rises (R84). A phantom has no decision. -/
def Obligations.PlansAreFixedAtPdp : Prop :=
  ∀ (r : Strip) (s : State), s.stripSerial r.serial = some r →
    let written (p : CutPlan) (ev : EvalState) : State :=
      { s with
        track :=
          { s.track with
            strips := stripsWith r.serial (fun q => { q with plan := some p, eval := ev }) s } }
    let late (len : Nat) (case : LateCase) : State :=
      let p : CutPlan := defaultPlan s.cfg len .late
      let u : State := written p (if case = .queueFull then .notQueued else .abandoned)
      if p = .pass .short then u
      else
        { u with
          track :=
            { u.track with
              stats := { s.track.stats with lateDecisions := s.track.stats.lateDecisions + 1 } }
          link := linkAfter [.lateDecision r.number case] s }
    let form (p : CutPlan) : OrderForm := match p with
      | .graded _ _ head raw _ | .default _ _ head raw => .cut head raw
      | .pass _ => .pass
    let frame (p : CutPlan) : List Byte := match p with
      | .graded _ _ head raw _ | .default _ _ head raw =>
        fieldFrame 0x11 (u16 r.number.toNat ++ u16 head ++ u16 raw)
      | .pass _ => fieldFrame 0x12 (u16 r.number.toNat)
    let decided (p : CutPlan) (u : State) : Prop :=
      let v : State := engineBegin u
      takeEvent r s .pdpLead =
        { v with
          track :=
            { v.track with
              strips := stripsWith r.serial (fun q => { q with cut := .ordered }) v }
          saw :=
            { s.saw with
              orders := s.saw.orders ++ [{ strip := r.number, form := form p }]
              sent := sat16 s.saw.sent
              tx := s.saw.tx ++ [frame p] } }
    (r.origin = .phantom → takeEvent r s .pdpLead = s) ∧
    (r.origin = .admitted →
      (r.joined = true → decided (.pass .joined) (written (.pass .joined) r.eval)) ∧
      (r.joined = false → r.infeed = none →
        decided (.pass .noValue) (written (.pass .noValue) r.eval)) ∧
      (∀ len, r.joined = false → r.infeed = some len →
        (∀ p, r.eval = .done → r.result = some p → decided p (written p .done)) ∧
        (r.eval = .evaluating →
          decided (defaultPlan s.cfg len .late)
            { late len .inFlight with
              grading :=
                { s.grading with
                  inFlight := none, abandoned := sat16 s.grading.abandoned } }) ∧
        (r.eval = .queued →
          decided (defaultPlan s.cfg len .late)
            { late len .queued with
              grading :=
                { s.grading with
                  queue := s.grading.queue.filter (· != r.number)
                  withdrawn := sat16 s.grading.withdrawn } }) ∧
        (r.eval ≠ .evaluating → r.eval ≠ .queued → (r.eval ≠ .done ∨ r.result = none) →
          ((r.scan = .truncated ∨ r.scan = .incomplete) →
            decided (defaultPlan s.cfg len .unrated)
              (written (defaultPlan s.cfg len .unrated) r.eval)) ∧
          (r.scan = .complete →
            decided (defaultPlan s.cfg len .late) (late len .queueFull)) ∧
          (r.scan ≠ .truncated → r.scan ≠ .incomplete → r.scan ≠ .complete →
            decided (defaultPlan s.cfg len .noscan)
              (written (defaultPlan s.cfg len .noscan) r.eval)))))

/-- A DONE for an ORDERED record applies its order's cut to the record: its reference moves by the head
offset, its current length becomes the raw length, and its cut state CONFIRMED; its order leaves the
list (R85, R86). One for an UNCONFIRMED record is a late reply, and any other is stray (R85). Every
SAWFAULT latches alarm SAW, gives a FAULT event and is kept as the last fault (R87). An ORDERED,
CONFIRMED or UNCONFIRMED record without a route becomes FAULTED and its order leaves the list; a number
with no record, or a record without an order or with a route, FAULTED or not, is a stray reply (R87,
R119). -/
def Obligations.SawRepliesAreJudged : Prop :=
  (∀ (n : StripNo) (s : State), s.powered = true →
    (∀ r o, s.stripNo n = some r → r.cut = .ordered →
      s.saw.orders.find? (fun o => o.strip == r.number) = some o →
      exec (.sawDone n) s =
        .next (settle
          { s with
            track :=
              { s.track with
                strips := stripsWith r.serial
                  (fun q => match o.form with
                    | .cut head raw =>
                      { q with
                        adjustment := q.adjustment + BitVec.ofNat 32 head, current := some raw
                        cut := .confirmed }
                    | .pass => { q with cut := .confirmed }) s }
            saw :=
              { s.saw.hunting with
                orders := s.saw.orders.filter (fun o => o.strip != n)
                confirmed := sat16 s.saw.confirmed } })) ∧
    (∀ r, s.stripNo n = some r → r.cut = .unconfirmed →
      exec (.sawDone n) s =
        .next (settle
          { s with
            saw := { s.saw.hunting with lateReplies := sat16 s.saw.lateReplies }
            link := linkAfter [.lateReply n] s })) ∧
    ((s.stripNo n = none ∨
        ∃ r, s.stripNo n = some r ∧ r.cut ≠ .ordered ∧ r.cut ≠ .unconfirmed) →
      exec (.sawDone n) s =
        .next (settle
          { s with
            saw := { s.saw.hunting with strayReplies := sat16 s.saw.strayReplies }
            link := linkAfter [.sawStray n] s }))) ∧
  (∀ (n : StripNo) (code : Byte) (s : State), s.powered = true →
    let saw : SawPort :=
      { s.saw.hunting with lastFault := some (n, code), faults := sat16 s.saw.faults }
    let u : State :=
      { s with
        sup := { s.sup with alarms := alarmsWith .saw s }
        saw := saw
        link := linkAfter [.sawFault n code] s }
    (∀ r, s.stripNo n = some r → (r.cut = .ordered ∨ r.cut = .confirmed ∨ r.cut = .unconfirmed) →
      r.route = none →
      exec (.sawFault n code) s =
        .next (settle
          { u with
            track :=
              { s.track with
                strips := stripsWith r.serial (fun q => { q with cut := .faulted }) s }
            saw := { saw with orders := s.saw.orders.filter (fun o => o.strip != n) } })) ∧
    ((s.stripNo n = none ∨
        ∃ r, s.stripNo n = some r ∧ (r.cut = .none ∨ r.route ≠ none)) →
      exec (.sawFault n code) s =
        .next (settle { u with saw := { saw with strayReplies := sat16 s.saw.strayReplies } })) ∧
    (∀ r, s.stripNo n = some r → r.cut = .faulted → r.route = none →
      exec (.sawFault n code) s = .next (settle u)))

/-! ### The heads -/

/-- A TEMPERATURE conversion sets the reading to its 10-bit result divided by 4 and ends staleness (R96,
R107). The pre-warning begins at a reading at or above its level and ends below level minus hysteresis,
or at a reading of 0 when that is 0 or less, with WARNING and CLEARED (R107, R108); the shutdown
likewise, adding and removing TEMP, latching alarm TEMP, with SHUTDOWN and RESTORED (R109). One reading
is judged against both, the pre-warning first, in every combination: both begin, both end, or one begins
as the other ends. TEMP added takes RUN to HOLD, and TEMP removed as the last source takes HOLD to RUN
(R26). LAMP-G's phase and the order STATE before EFFECTIVE, SHUTDOWN and RESTORED are
notes/assumptions/35.md and 37.md. Stated with the request list empty, so that the converter is then
IDLE; with requests waiting it takes the next one (SlicesArePlaced), said of a reading that changes
neither condition. Every 500 ms a TEMPERATURE request is placed unless one is in the list, an idle
converter taking it at once; temperature is stale when none has completed for 2 s (R96). Before their
moments neither event occurs (notes/assumptions/3.md). -/
def Obligations.TemperatureIsJudged : Prop :=
  (∀ (value : BitVec 10) (k : Nat) (hs : HeadsSettings) (s : State), s.powered = true →
    s.heads.conversion = some { serial := k, request := .temperature, settings := hs } →
    s.heads.requests = [] →
    let out : Host.Outcome State Fault Refusal :=
      exec (.conversionCompletion { conversion := k, value := value }) s
    let t : Nat := value.toNat / 4
    let h : HeadsSettings := s.cfg.heads
    let ended (level : Nat) : Prop :=
      if level ≤ h.hysteresis then t = 0 else t < level - h.hysteresis
    let others : List HoldSource := s.sup.holds.filter (· != .temp)
    ∀ (warm : Bool) (told : List Notice),
      ((s.heads.preWarning = false ∧ t < h.preWarning ∧ warm = false ∧ told = []) ∨
        (s.heads.preWarning = false ∧ h.preWarning ≤ t ∧ warm = true ∧ told = [.warning t]) ∨
        (s.heads.preWarning = true ∧ ¬ ended h.preWarning ∧ warm = true ∧ told = []) ∨
        (s.heads.preWarning = true ∧ ended h.preWarning ∧ warm = false ∧
          told = [.warningCleared t])) →
      let read (shut : Bool) : HeadMonitor :=
        { s.heads with
          conversion := none, completed := sat16 s.heads.completed, reading := some t
          stale := false, tempSince := s.now, preWarning := warm, shutdown := shut }
      (s.heads.shutdown = false → t < h.shutdown →
        out = .next (settle { s with heads := read false, link := linkAfter told s })) ∧
      (s.heads.shutdown = true → ¬ ended h.shutdown →
        out = .next (settle { s with heads := read true, link := linkAfter told s })) ∧
      (s.heads.shutdown = false → h.shutdown ≤ t → .temp ∉ s.sup.holds →
        (s.sup.line ≠ .run →
          out =
            .next (settle
              { s with
                heads := read true
                sup := { s.sup with holds := holdsWith .temp s, alarms := alarmsWith .temp s }
                link := linkAfter (told ++ [.shutdown t]) s })) ∧
        (s.sup.line = .run →
          out =
            .next (settle
              { s with
                heads := read true
                sup :=
                  { s.sup with
                    line := .hold
                    holds := holdsWith .temp s
                    holdEffective := s.track.strips.isEmpty
                    alarms := alarmsWith .temp s
                    lampG := dimmed s }
                link := linkAfter (told ++ holdEvents s ++ [.shutdown t]) s }))) ∧
      (s.heads.shutdown = true → ended h.shutdown → .temp ∈ s.sup.holds →
        ((s.sup.line ≠ .hold ∨ others ≠ []) →
          out =
            .next (settle
              { s with
                heads := read false
                sup := { s.sup with holds := others }
                link := linkAfter (told ++ [.shutdownRestored t]) s })) ∧
        (s.sup.line = .hold → others = [] →
          out =
            .next (settle
              { s with
                heads := read false
                sup :=
                  { s.sup with
                    line := .run, holds := [], holdEffective := false, guard := guardAtRun s
                    lampG := none }
                link := linkAfter (told ++ [.state .run, .shutdownRestored t]) s })))) ∧
  (∀ (value : BitVec 10) (k : Nat) (hs : HeadsSettings) (s : State), s.powered = true →
    s.heads.conversion = some { serial := k, request := .temperature, settings := hs } →
    s.heads.preWarning = false → s.heads.shutdown = false →
    value.toNat / 4 < s.cfg.heads.preWarning → value.toNat / 4 < s.cfg.heads.shutdown →
    exec (.conversionCompletion { conversion := k, value := value }) s =
      .next (settle
        (converterNext
          { s with
            heads :=
              { s.heads with
                conversion := none, completed := sat16 s.heads.completed
                reading := some (value.toNat / 4), stale := false, tempSince := s.now } }))) ∧
  (∀ s : State, s.powered = true →
    (s.now < s.heads.nextTemp → exec .temperatureTimer s = .next (settle s)) ∧
    (s.heads.nextTemp ≤ s.now →
      (.temperature ∈ s.heads.requests →
        exec .temperatureTimer s =
          .next (settle { s with heads := { s.heads with nextTemp := s.heads.nextTemp + 2000 } })) ∧
      (.temperature ∉ s.heads.requests → s.heads.conversion ≠ none →
        exec .temperatureTimer s =
          .next (settle
            { s with
              heads :=
                { s.heads with
                  nextTemp := s.heads.nextTemp + 2000
                  requests := s.heads.requests ++ [.temperature] } })) ∧
      (s.heads.requests = [] → s.heads.conversion = none →
        exec .temperatureTimer s =
          .next (settle
            { s with
              heads :=
                { s.heads with
                  nextTemp := s.heads.nextTemp + 2000
                  conversion :=
                    some
                      { serial := s.heads.nextConversion, request := .temperature
                        settings := s.cfg.heads }
                  nextConversion := s.heads.nextConversion + 1 } }))) ∧
    (s.heads.tempSince + 8000 ≤ s.now →
      exec .temperatureStale s = .next (settle { s with heads := { s.heads with stale := true } })) ∧
    (s.now < s.heads.tempSince + 8000 → exec .temperatureStale s = .next (settle s)))

/-- At Pmo + settle the moulder slice holds a MOULDER request for the head in turn, the first enabled
moulder head from the rotation pointer in the cycle, and one for the next enabled head after it (R98);
at Pem + settle the end-match slice holds an END-MATCH request for H5 and one for H6, where enabled
(R99). A record whose trailing edge has already passed the head point is skipped and counted: its
passing has been taken, or the edge is known and stands beyond the point, as when both fall due at one
change of travel; one just at the point has not passed, the model's reading of R98
(notes/assumptions/47.md). A phantom has no slice (R98, R99). A converter that is IDLE takes a request:
a waiting TEMPERATURE before all while temperature is stale, a takeover, counted when other requests
wait (R113; that none is counted when none waits is the model's reading, notes/assumptions/20.md); else
the oldest END-MATCH, the oldest MOULDER, the CHECK, the TEMPERATURE; a request whose head is out of
service is withdrawn, and the next is looked at (R96, R97). The serial of a conversion is the model's
own (notes/assumptions/21.md). -/
def Obligations.SlicesArePlaced : Prop :=
  (∀ (r : Strip) (s : State),
    let asHead (k : Fin 4) : Head := ⟨k.val, by omega⟩
    let on (n : Head) : Bool := (s.cfg.heads.head[n]).enabled
    let p : Fin 4 := s.heads.rotation
    let turn : List (Fin 4) := [p, p + 1, p + 2, p + 3].filter (fun k => on (asHead k))
    let placed (rs : List ConvRequest) (u : State) : State :=
      converterNext { u with heads := { u.heads with requests := u.heads.requests ++ rs } }
    let skipped (u : State) : State :=
      { u with heads := { u.heads with skipped := sat16 u.heads.skipped } }
    let leading : Int := (s.track.travel - (r.admission + r.adjustment)).toInt
    let length : Option Nat := if r.current = none then r.infeed else r.current
    let passed (trail : PassEvent) (point : Nat) : Prop :=
      trail ∈ r.raised ∨ ∃ n, length = some n ∧ (point : Int) < leading - n
    let um : State := markAtSample [0, 1, 2, 3] r s
    let ue : State := markAtSample [4, 5] r s
    (r.origin = .phantom →
      takeEvent r s .pmoSettleLead = um ∧ takeEvent r s .pemSettleLead = ue) ∧
    (r.origin = .admitted →
      (passed .pmoTrail s.cfg.line.pmo → takeEvent r s .pmoSettleLead = skipped um) ∧
      (¬ passed .pmoTrail s.cfg.line.pmo →
        takeEvent r s .pmoSettleLead =
          placed ((turn.take 2).map (fun k => .moulder r.number (asHead k))) um) ∧
      (passed .pemTrail s.cfg.line.pem → takeEvent r s .pemSettleLead = skipped ue) ∧
      (¬ passed .pemTrail s.cfg.line.pem →
        takeEvent r s .pemSettleLead =
          placed (([4, 5].filter on).map (fun n => .endMatch r.number n)) ue))) ∧
  (∀ s : State, s.heads.conversion ≠ none → converterNext s = s) ∧
  ∀ (pre post : List ConvRequest) (q : ConvRequest) (n : StripNo) (h : Head) (s : State),
    s.heads.conversion = none → s.heads.requests = pre ++ q :: post →
    let rest : List ConvRequest := pre ++ post
    let all : List ConvRequest := s.heads.requests
    let urgent : Prop := s.heads.stale = true ∧ .temperature ∈ all
    let noEnd (l : List ConvRequest) : Prop := ∀ m k, .endMatch m k ∉ l
    let noMoulder (l : List ConvRequest) : Prop := ∀ m k, .moulder m k ∉ l
    let noCheck (l : List ConvRequest) : Prop := ∀ k, .check k ∉ l
    let on : Prop := (s.cfg.heads.head[h]).enabled = true
    let begun (takeovers : Count16) : State :=
      { s with
        heads :=
          { s.heads with
            requests := rest
            conversion :=
              some { serial := s.heads.nextConversion, request := q, settings := s.cfg.heads }
            nextConversion := s.heads.nextConversion + 1
            takeovers := takeovers } }
    let withdrawn : State :=
      { s with
        heads := { s.heads with requests := rest, withdrawn := sat16 s.heads.withdrawn } }
    let chosen : Prop :=
      ¬ urgent ∧
        ((q = .endMatch n h ∧ noEnd pre) ∨
          (q = .moulder n h ∧ noEnd all ∧ noMoulder pre) ∨
          (q = .check h ∧ noEnd all ∧ noMoulder all ∧ noCheck pre))
    (chosen → on → converterNext s = begun s.heads.takeovers) ∧
    (chosen → ¬ on → q ≠ .check h → converterNext s = converterNext withdrawn) ∧
    (chosen → ¬ on → q = .check h →
      converterNext s = converterNext (moveCursor (h.val + 1) withdrawn)) ∧
    (q = .temperature → .temperature ∉ pre → s.heads.stale = true → rest ≠ [] →
      converterNext s = begun (sat16 s.heads.takeovers)) ∧
    (q = .temperature → .temperature ∉ pre → s.heads.stale = true → rest = [] →
      converterNext s = begun s.heads.takeovers) ∧
    (q = .temperature → .temperature ∉ pre → s.heads.stale = false → noEnd all → noMoulder all →
      noCheck all → converterNext s = begun s.heads.takeovers)

/-- A slice result of a record still under its head, moulder or end head, is judged by the settings its
conversion began with, the minimum speed among them, and the feed speed now (R94, R100, R101; that the
minimum speed is the one it began with is DEDUCED, notes/assumptions/18.md). The load is the head's last
load and raises its peak. Above overload it is BAD; below cut-absent BAD at or above the minimum speed
and neutral below it; else GOOD. GOOD ends the bad count and keeps the last good strip; a BAD short of
the confirm count, or on a head already latched, only counts; one that reaches it latches the fault,
also with the count there already (DEDUCED, notes/assumptions/19.md), as LatchesMarkAndReport says
(R102). With diagnostics off the bad count ends and the last good strip moves (R101). The rotation
pointer then moves past a moulder head in turn (R100). A slice whose record has passed is late (R100);
with its record gone it is discarded (R97). A completion with no conversion in flight, or of one
abandoned by a reset, is discarded (R114; the serials are notes/assumptions/21.md). -/
def Obligations.SlicesAreJudged : Prop :=
  (∀ (result : ConversionResult) (s : State), s.powered = true →
    (∀ cv, s.heads.conversion = some cv → cv.serial ≠ result.conversion) →
    exec (.conversionCompletion result) s = .next (settle s)) ∧
  ∀ (value : BitVec 10) (k : Nat) (n : StripNo) (h : Head) (q : ConvRequest) (hs : HeadsSettings)
    (r : Strip) (s : State),
    s.powered = true → (q = .endMatch n h ∧ 4 ≤ h.val ∨ q = .moulder n h ∧ h.val < 4) →
    s.heads.conversion = some { serial := k, request := q, settings := hs } →
    s.heads.requests = [] →
    let out : Host.Outcome State Fault Refusal :=
      exec (.conversionCompletion { conversion := k, value := value }) s
    let load : Nat := value.toNat
    let asHead (j : Fin 4) : Head := ⟨j.val, by omega⟩
    let p : Fin 4 := s.heads.rotation
    let turn : List (Fin 4) :=
      [p, p + 1, p + 2, p + 3].filter (fun j => (s.cfg.heads.head[asHead j]).enabled)
    let moved : Fin 4 := match turn with
      | j :: _ => if asHead j = h then j + 1 else p
      | [] => p
    let done : HeadMonitor :=
      { s.heads with conversion := none, completed := sat16 s.heads.completed }
    let old : HeadRecord := s.heads.records[h]
    let noted : HeadRecord := { old with lastLoad := some load, peak := max old.peak load }
    let held (q : HeadRecord) : HeadMonitor :=
      { done with rotation := moved, records := s.heads.records.set h q }
    let passed : PassEvent := if h.val < 4 then .pmoTrail else .pemTrail
    let counted : Nat :=
      if old.badCount < hs.head[h].confirm then old.badCount + 1 else old.badCount
    let bad (k : HeadFault) : Prop :=
      (k = .overload ∧ hs.head[h].overload < load) ∨
        (k = .cutAbsent ∧ load ≤ hs.head[h].overload ∧ load < hs.head[h].cutAbsent ∧
          hs.minSpeed ≤ s.track.speed)
    (s.stripNo n = none → out = .next (settle { s with heads := done })) ∧
    (s.stripNo n = some r → passed ∈ r.raised →
      out = .next (settle { s with heads := { done with late := sat16 s.heads.late } })) ∧
    (s.stripNo n = some r → passed ∉ r.raised → hs.head[h].diagnostics = false →
      out = .next (settle { s with heads := held { noted with badCount := 0, lastGood := some n } })) ∧
    (s.stripNo n = some r → passed ∉ r.raised → hs.head[h].diagnostics = true →
      (load ≤ hs.head[h].overload → hs.head[h].cutAbsent ≤ load →
        out =
          .next (settle
            { s with
              heads := held { noted with badCount := 0, verdict := .good, lastGood := some n } })) ∧
      (load ≤ hs.head[h].overload → load < hs.head[h].cutAbsent → s.track.speed < hs.minSpeed →
        out = .next (settle { s with heads := held noted })) ∧
      (∀ k, bad k → (hs.head[h].confirm > counted ∨ old.latched ≠ none) →
        out =
          .next (settle
            { s with heads := held { noted with badCount := counted, verdict := .bad } })) ∧
      (∀ k, bad k → hs.head[h].confirm ≤ counted → old.latched = none →
        let u : State :=
          latchFault h k r
            { s with
              heads :=
                { s.heads with
                  completed := sat16 s.heads.completed
                  records :=
                    s.heads.records.set h { noted with badCount := counted, verdict := .bad } } }
        out =
          .next (settle
            { u with heads := { u.heads with conversion := none, rotation := moved } })))

/-- At the latch of a fault on head n its kind and detail are set, then every record of the suspect
range is marked, then the fault is reported (R102 to R104). The range: the records, phantoms apart,
whose leading edge stands at or beyond the head point and whose number is reached after the last good
strip and not after the latching one, counting through 1 to 65535; with no last good strip, the latching
record and those ahead of it. A record without a route and not yet suspect becomes suspect with head n,
one suspect already stays, and one with a route is an escape, each counted in the detail (R103), the
counts stopping at 65,535 by the model's reading (notes/assumptions/17.md). Unmasked, alarm HEAD(n) is
latched, a FAULT event carries kind and detail, and under policy STOP HEAD is added, RUN going to HOLD;
masked, none of it (R104; LAMP-G's phase, and FAULT before STATE, are the model's choices:
notes/assumptions/35.md and 37.md). While the fault is latched every record with a number that passes
the head's sample point is marked too, an escape giving an ESCAPED event unless masked (R103); of two
latched heads the lower number marks first: model's choice (R105, notes/assumptions/44.md). -/
def Obligations.LatchesMarkAndReport : Prop :=
  (∀ (n : Head) (k : HeadFault) (r : Strip) (s : State),
    let good : Option StripNo := s.heads.records[n].lastGood
    let detail : FaultDetail :=
      { stripAtLatch := r.number, lastGoodAtLatch := good, suspects := 0, escaped := 0 }
    let latched : State :=
      { s with
        heads :=
          { s.heads with
            records :=
              s.heads.records.set n
                { s.heads.records[n] with latched := some k, detail := some detail } } }
    let point : Nat := if n.val < 4 then s.cfg.line.pmo else s.cfg.line.pem
    let beyond (q : Strip) : Prop :=
      q.origin = .admitted ∧ (point : Int) ≤ (s.track.travel - (q.admission + q.adjustment)).toInt
    let forward (a b : StripNo) : Nat := (b.toNat + 65535 - a.toNat) % 65535
    latchFault n k r s =
      reportFault n k
        ((suspectRange n good r latched).foldl (fun u q => markSuspect n false q u) latched) ∧
    (∀ g, good = some g → ∀ q,
      q ∈ suspectRange n good r s ↔
        q ∈ s.track.strips ∧ beyond q ∧ 1 ≤ forward g q.number ∧
          forward g q.number ≤ forward g r.number) ∧
    (∀ ahead behind, good = none → s.track.strips = ahead ++ r :: behind →
      (s.track.strips.map (·.serial)).Nodup →
      ∀ q, q ∈ suspectRange n good r s ↔ (q ∈ ahead ∨ q = r) ∧ beyond q)) ∧
  (∀ (n : Head) (report : Bool) (r : Strip) (s : State),
    let counted (f : FaultDetail → FaultDetail) : HeadMonitor :=
      { s.heads with
        records :=
          s.heads.records.set n
            { s.heads.records[n] with detail := s.heads.records[n].detail.map f } }
    let escapes : HeadMonitor := counted (fun d => { d with escaped := sat16 d.escaped })
    let told : Prop := report = true ∧ (s.cfg.heads.head[n]).masked = false
    (r.route ≠ none → told →
      markSuspect n report r s =
        { s with heads := escapes, link := linkAfter [.headEscaped n r.number] s }) ∧
    (r.route ≠ none → ¬ told → markSuspect n report r s = { s with heads := escapes }) ∧
    (r.route = none → r.suspect = none →
      markSuspect n report r s =
        { s with
          track :=
            { s.track with
              strips := stripsWith r.serial (fun q => { q with suspect := some n }) s }
          heads := counted (fun d => { d with suspects := sat16 d.suspects }) }) ∧
    (r.route = none → r.suspect ≠ none → markSuspect n report r s = s)) ∧
  (∀ (n : Head) (k : HeadFault) (d : FaultDetail) (s : State),
    let reported : State :=
      { s with
        sup := { s.sup with alarms := alarmsWith (.head n) s }
        link := linkAfter [.headFault n k d] s }
    let stops : Prop := (s.cfg.heads.head[n]).policy = .stop ∧ .head ∉ s.sup.holds
    ((s.cfg.heads.head[n]).masked = true → reportFault n k s = s) ∧
    ((s.cfg.heads.head[n]).masked = false → s.heads.records[n].detail = some d →
      (¬ stops → reportFault n k s = reported) ∧
      (stops → s.sup.line ≠ .run →
        reportFault n k s =
          { reported with sup := { reported.sup with holds := holdsWith .head s } }) ∧
      (stops → s.sup.line = .run → s.track.strips ≠ [] →
        reportFault n k s =
          { reported with
            sup :=
              { reported.sup with
                line := .hold
                holds := holdsWith .head s
                holdEffective := false
                lampG := dimmed s }
            link := linkAfter [.headFault n k d, .state .hold] s }))) ∧
  ∀ (hs : List Head) (n : Head) (r : Strip) (s : State), s.stripSerial r.serial = some r →
    (r.number = 0 → markAtSample hs r s = s) ∧
    ((∀ m ∈ hs, s.heads.records[m].latched = none) → markAtSample hs r s = s) ∧
    (∀ below above, hs = below ++ n :: above → n ∉ above → r.number ≠ 0 →
      (∀ m ∈ below ++ above, s.heads.records[m].latched = none) →
      s.heads.records[n].latched ≠ none → markAtSample hs r s = markSuspect n true r s) ∧
    (∀ m : Head, hs = [n, m] → n ≠ m → r.number ≠ 0 → s.heads.records[n].latched ≠ none →
      s.heads.records[m].latched ≠ none → r.route = none → r.suspect = none →
      markAtSample hs r s = markSuspect n true r s)

/-- A CHECK conversion's result is its head's last load and raises its peak, and gives the check result
by the idle settings it began with: NOT RUNNING below idle min, IDLE DRAG above idle max, else OK, which
alone sets the verdict GOOD and the bad count 0. The cursor then moves to the next enabled head in head
order, whose CHECK request the converter takes; with none left the check is DONE, CHECK leaves the
hold-source set, a DONE event carries the six results, and HOLD with no other source goes to RUN (R111,
R112; LAMP-G is off in RUN's steady light, R42). That STATE comes before DONE, and that the cursor then
names no head, are the model's choices (notes/assumptions/37.md and 45.md). Stated with no other request
waiting. -/
def Obligations.ChecksRunToTheirEnd : Prop :=
  ∀ (value : BitVec 10) (k : Nat) (h : Head) (hs : HeadsSettings) (s : State), s.powered = true →
    s.heads.conversion = some { serial := k, request := .check h, settings := hs } →
    s.heads.requests = [] →
    let out : Host.Outcome State Fault Refusal :=
      exec (.conversionCompletion { conversion := k, value := value }) s
    let load : Nat := value.toNat
    let old : HeadRecord := s.heads.records[h]
    let result : CheckResult :=
      if load < hs.head[h].idleMin then .notRunning
      else if hs.head[h].idleMax < load then .idleDrag
      else .ok
    let noted : HeadRecord :=
      { old with
        lastLoad := some load
        peak := max old.peak load
        checkResult := some result
        verdict := if result = .ok then .good else old.verdict
        badCount := if result = .ok then 0 else old.badCount }
    let records : Vector HeadRecord 6 := s.heads.records.set h noted
    let on (m : Head) : Prop := (s.cfg.heads.head[m]).enabled = true
    let others : List HoldSource := s.sup.holds.filter (· != .check)
    let ended : HeadMonitor :=
      { s.heads with
        records := records
        conversion := none
        completed := sat16 s.heads.completed
        check := .done
        cursor := none }
    let event : Notice := .checkDone (records.map (·.checkResult))
    (∀ m : Head, h < m → on m → (∀ j : Head, h < j → j < m → ¬ on j) →
      out =
        .next (settle
          { s with
            heads :=
              { s.heads with
                records := records
                completed := sat16 s.heads.completed
                cursor := some m
                conversion :=
                  some
                    { serial := s.heads.nextConversion, request := .check m
                      settings := s.cfg.heads }
                nextConversion := s.heads.nextConversion + 1 } })) ∧
    ((∀ m : Head, h < m → ¬ on m) →
      ((s.sup.line ≠ .hold ∨ others ≠ [] ∨ .check ∉ s.sup.holds) →
        out =
          .next (settle
            { s with
              heads := ended
              sup := { s.sup with holds := others }
              link := linkAfter [event] s })) ∧
      (s.sup.line = .hold → others = [] → .check ∈ s.sup.holds →
        out =
          .next (settle
            { s with
              heads := ended
              sup :=
                { s.sup with
                  line := .run, holds := [], holdEffective := false, guard := guardAtRun s
                  lampG := none }
              link := linkAfter [.state .run, event] s })))

/-- HEAD READ gives every head's settings and state in the order of R93, the settings, the converter,
the temperature, the check and the five counters, and then zeroes the peaks (R113; where R195 leaves the
layout open it is notes/assumptions/28.md and 30.md). HEAD CLEAR clears the fault of every head whose
verdict is GOOD or that is out of service, takes HEAD out of the hold-source set when no STOP-policy
head stays latched, and lists the heads latched (R106). HEAD CHECK is refused BUSY while a check runs
and STATE outside READY and an effective HOLD or with the track not empty; accepted, in READY or an
effective HOLD, it clears the results, adds CHECK, sets the cursor to the first enabled head and places
its CHECK request, which an idle converter takes at once and a busy one later, and replies with the
number of enabled heads; with none enabled the reply carries 0 and the check ends at once, DONE, without
CHECK being added, the cursor then naming no head, the model's choice (R95, R110, R112;
notes/assumptions/45.md). -/
def Obligations.HeadRequestsAreServed : Prop :=
  ∀ (tag : Byte) (s : State), Listening s →
    (let b8 (n : Nat) : List Byte := [BitVec.ofNat 8 n]
    let yes (c : Bool) : List Byte := [if c then 1 else 0]
    let m : HeadMonitor := s.heads
    let h : HeadsSettings := s.cfg.heads
    let body : List Byte :=
      (List.finRange 6).flatMap (fun n =>
        let g : HeadSettings := h.head[n]
        let r : HeadRecord := m.records[n]
        yes g.enabled ++ yes g.diagnostics ++ yes g.masked ++ yes (g.policy == .stop) ++
          u16 g.cutAbsent ++ u16 g.overload ++ u16 g.idleMin ++ u16 g.idleMax ++ b8 g.confirm ++
          b8 r.badCount ++ b8 (match r.verdict with | .none => 0 | .good => 1 | .bad => 2) ++
          b8 (match r.latched with | none => 0 | some .cutAbsent => 1 | some .overload => 2) ++
          u16 (r.lastGood.getD 0).toNat ++
          (match r.detail with
            | none => List.replicate 8 0
            | some d =>
              u16 d.stripAtLatch.toNat ++ u16 (d.lastGoodAtLatch.getD 0).toNat ++
                u16 d.suspects.toNat ++ u16 d.escaped.toNat) ++
          u16 (r.lastLoad.getD 0xFFFF) ++ u16 r.peak ++
          b8 (match r.checkResult with
            | none => 0 | some .ok => 1 | some .notRunning => 2 | some .idleDrag => 3)) ++
        b8 h.minSpeed ++ b8 h.preWarning ++ b8 h.shutdown ++ b8 h.hysteresis ++
        yes m.conversion.isSome ++
        b8 (match m.conversion.map Conversion.request with
          | some (.endMatch _ _) => 0 | some (.moulder _ _) => 1 | some (.check _) => 2
          | some .temperature => 3 | none => 0xFF) ++
        u16 m.requests.length ++ b8 (m.rotation.val + 1) ++
        b8 (match [m.rotation, m.rotation + 1, m.rotation + 2, m.rotation + 3].filter
            (fun k => (h.head[(⟨k.val, by omega⟩ : Head)]).enabled) with
          | k :: _ => k.val + 1
          | [] => 0) ++
        b8 (m.reading.getD 255) ++ yes m.reading.isNone ++ yes m.preWarning ++ yes m.shutdown ++
        yes m.stale ++ b8 (match m.check with | .idle => 0 | .running => 1 | .done => 2) ++
        [m.completed, m.late, m.withdrawn, m.skipped, m.takeovers].flatMap (fun c => u16 c.toNat)
    exec (.headRead tag []) s =
      .next (settle
        { s with
          heads := { s.heads with records := s.heads.records.map (fun r => { r with peak := 0 }) }
          link := linkReplied 0x14 tag (.accepted body) [] s })) ∧
    (let clears (n : Head) : Bool :=
      s.heads.records[n].verdict == .good || !(s.cfg.heads.head[n]).enabled
    let cleared : Vector HeadRecord 6 :=
      Vector.ofFn (fun n =>
        if clears n then { s.heads.records[n] with latched := none } else s.heads.records[n])
    let left : List Head := (List.finRange 6).filter (fun n => cleared[n].latched.isSome)
    let list : List Byte := BitVec.ofNat 8 left.length :: left.map (fun n => BitVec.ofNat 8 (n.val + 1))
    ((.head ∉ s.sup.holds ∨ ∃ n ∈ left, (s.cfg.heads.head[n]).policy = .stop) →
      exec (.headClear tag []) s =
        .next (settle
          { s with
            heads := { s.heads with records := cleared }
            link := linkReplied 0x15 tag (.accepted list) [] s })) ∧
    (.head ∈ s.sup.holds → (∀ n ∈ left, (s.cfg.heads.head[n]).policy ≠ .stop) →
      (s.sup.line ≠ .hold ∨ s.sup.holds.filter (· != .head) ≠ []) →
      exec (.headClear tag []) s =
        .next (settle
          { s with
            heads := { s.heads with records := cleared }
            sup := { s.sup with holds := s.sup.holds.filter (· != .head) }
            link := linkReplied 0x15 tag (.accepted list) [] s })) ∧
    (.head ∈ s.sup.holds → (∀ n ∈ left, (s.cfg.heads.head[n]).policy ≠ .stop) →
      s.sup.line = .hold → s.sup.holds.filter (· != .head) = [] →
      exec (.headClear tag []) s =
        .next (settle
          { s with
            heads := { s.heads with records := cleared }
            sup :=
              { s.sup with
                line := .run, holds := [], holdEffective := false, guard := guardAtRun s
                lampG := none }
            link := linkReplied 0x15 tag (.accepted list) [.state .run] s }))) ∧
    (s.heads.check = .running →
      exec (.headCheck tag []) s = .next (settle (answered 0x16 tag (.refused .busy 0) s))) ∧
    (s.heads.check ≠ .running →
      (s.track.strips ≠ [] ∨ (s.sup.line ≠ .ready ∧ s.sup.line ≠ .hold) ∨
        (s.sup.line = .hold ∧ s.sup.holdEffective = false)) →
      exec (.headCheck tag []) s = .next (settle (answered 0x16 tag (.refused .state 0) s))) ∧
    (s.heads.check ≠ .running → s.track.strips = [] →
      (s.sup.line = .ready ∨ s.sup.line = .hold ∧ s.sup.holdEffective = true) →
      .check ∉ s.sup.holds →
      let blank : Vector HeadRecord 6 :=
        s.heads.records.map (fun r => { r with checkResult := none })
      let on (k : Head) : Bool := (s.cfg.heads.head[k]).enabled
      let checking (n : Head) (f : HeadMonitor → HeadMonitor) : State :=
        { s with
          heads := f { s.heads with records := blank, check := .running, cursor := some n }
          sup := { s.sup with holds := holdsWith .check s }
          link :=
            linkReplied 0x16 tag
              (.accepted [BitVec.ofNat 8 ((List.finRange 6).filter on).length]) [] s }
      (∀ n : Head, on n = true → (∀ k : Head, k < n → on k = false) →
        (s.heads.conversion = none → s.heads.requests = [] →
          exec (.headCheck tag []) s =
            .next (settle
              (checking n (fun m =>
                { m with
                  conversion :=
                    some
                      { serial := s.heads.nextConversion, request := .check n
                        settings := s.cfg.heads }
                  nextConversion := s.heads.nextConversion + 1 })))) ∧
        (s.heads.conversion ≠ none →
          exec (.headCheck tag []) s =
            .next (settle
              (checking n (fun m => { m with requests := m.requests ++ [.check n] }))))) ∧
      ((∀ k : Head, on k = false) →
        exec (.headCheck tag []) s =
          .next (settle
            { s with
              heads := { s.heads with records := blank, check := .done, cursor := none }
              link :=
                linkReplied 0x16 tag (.accepted [0]) [.checkDone (Vector.replicate 6 none)] s })))

/-! ### Bays and bundles -/

/-- The route at Psa, by the first row that applies: a present route is kept; PASS is REJECT with its
reason; FAULTED, UNCONFIRMED and suspect are REGRADE; a DEFAULT plan is REGRADE with its reason; and
only a GRADED plan whose cut is CONFIRMED is GRADED. The event at Psa writes it into the record, with
the bay chosen for it (R118; the bay is AssignmentsAreTakenWhole's). -/
def Obligations.RoutesAreRanked : Prop :=
  ∀ r : Strip,
    (∀ rt, r.route = some rt → routeFor r = rt) ∧
    (∀ w, r.route = none → r.plan = some (.pass w) → routeFor r = .reject w) ∧
    (r.route = none → (∀ w, r.plan ≠ some (.pass w)) →
      (r.cut = .faulted → routeFor r = .regrade .sawFault) ∧
      (r.cut = .unconfirmed → routeFor r = .regrade .cutUnconfirmed) ∧
      (r.cut ≠ .faulted → r.cut ≠ .unconfirmed → r.suspect ≠ none →
        routeFor r = .regrade .suspect) ∧
      (∀ w c h l, r.cut ≠ .faulted → r.cut ≠ .unconfirmed → r.suspect = none →
        r.plan = some (.default w c h l) → routeFor r = .regrade w) ∧
      ∀ c g h l m, r.plan = some (.graded c g h l m) →
        ((∃ a b, routeFor r = .graded a b) ↔ r.cut = .confirmed ∧ r.suspect = none) ∧
        (r.cut = .confirmed → r.suspect = none → routeFor r = .graded g c) ∧
        ((r.cut = .none ∨ r.cut = .ordered) → r.suspect = none →
          routeFor r = .regrade .cutUnconfirmed)) ∧
    ∀ s : State,
      (takeEvent r s .psaLead).track.strips =
        stripsWith r.serial (fun q =>
          { q with route := some (routeFor r), bay := some (chooseBay s (routeFor r)) }) s

/-- The bay chosen for a GRADED route is the lowest-numbered OPEN graded bay of its key, else the
lowest-numbered MIXED bin that has room, else the end chute; for a REGRADE route the lowest-numbered
REGRADE bin that has room, else the end chute; for a REJECT route the end chute (R120). The event at
Psa, taken whole: the record gets route and bay, and the in-transit count of the bay, or of the chute,
rises by 1 (R115, R117, R121). A graded bay commits the strip to its bundle: count and area rise by one
strip, an empty bundle taking its limits first; an area at or above the target makes the bay FILLED with
reason TARGET, else a count equal to max strips FILLED with reason COUNT (R134). A GRADED strip sent to
a MIXED bin is counted as a fallback; a GRADED or REGRADE strip sent to the chute is counted with a
FALLBACK event; a REJECT is neither (R120, R130). Nothing else changes. -/
def Obligations.AssignmentsAreTakenWhole : Prop :=
  (∀ s : State,
    let fits (grade cls : Nat) (b : Bay) : Prop :=
      s.cfg.bays[b] = .graded { grade := grade, cls := cls } ∧ s.sort.bays[b].state = some .opened
    let roomy (role : Role) (b : Bay) : Prop :=
      s.cfg.bays[b] = role ∧
        s.sort.bays[b].occupancy.toNat + s.sort.bays[b].inTransit < s.cfg.bundling.capacity[b]
    (∀ (g c : Nat) (b : Bay), chooseBay s (.graded g c) = .gradedBay b ↔
      fits g c b ∧ ∀ a < b, ¬ fits g c a) ∧
    (∀ (g c : Nat) (b : Bay), chooseBay s (.graded g c) = .mixedBin b ↔
      (∀ a, ¬ fits g c a) ∧ roomy .mixed b ∧ ∀ a < b, ¬ roomy .mixed a) ∧
    (∀ g c : Nat, chooseBay s (.graded g c) = .endChute ↔
      (∀ a, ¬ fits g c a) ∧ ∀ a, ¬ roomy .mixed a) ∧
    (∀ (w : Reason) (b : Bay), chooseBay s (.regrade w) = .regradeBin b ↔
      roomy .regrade b ∧ ∀ a < b, ¬ roomy .regrade a) ∧
    (∀ w : Reason, chooseBay s (.regrade w) = .endChute ↔ ∀ a, ¬ roomy .regrade a) ∧
    ∀ w : Reason, chooseBay s (.reject w) = .endChute) ∧
  ∀ (r : Strip) (b : Bay) (s : State),
    let rt : Route := routeFor r
    let d : Destination := chooseBay s rt
    let track : TrackUnit :=
      { s.track with
        strips := stripsWith r.serial (fun q => { q with route := some rt, bay := some d }) s }
    let entry : BayEntry := { s.sort.bays[b] with inTransit := s.sort.bays[b].inTransit + 1 }
    let onTheWay : SortUnit := { s.sort with bays := s.sort.bays.set b entry }
    let toChute : SortUnit := { s.sort with chuteInTransit := s.sort.chuteInTransit + 1 }
    (d = .regradeBin b → takeEvent r s .psaLead = { s with track := track, sort := onTheWay }) ∧
    (d = .mixedBin b →
      takeEvent r s .psaLead =
        { s with
          track := track
          sort := { onTheWay with mixedFallbacks := sat16 s.sort.mixedFallbacks } }) ∧
    (∀ (o : OpenBundle) (l : BundleLimits), d = .gradedBay b → s.bundles.bundles[b] = some o →
      (o.committed = 0 ∧
          l =
            { nominal := s.cfg.classes.m + o.key.cls * s.cfg.classes.s, width := s.cfg.line.width
              target := s.cfg.bundling.target * 1000, maxStrips := s.cfg.bundling.maxStrips } ∨
        0 < o.committed ∧ o.limits = some l) →
      let area : Nat := o.committedArea + l.nominal * l.width
      let reason : Option CloseReason :=
        if l.target ≤ area then some .target
        else if o.committed + 1 = l.maxStrips then some .count
        else none
      takeEvent r s .psaLead =
        { s with
          track := track
          sort :=
            { s.sort with
              bays :=
                s.sort.bays.set b
                  { entry with state := if reason.isSome then some .filled else entry.state } }
          bundles :=
            { s.bundles with
              bundles :=
                s.bundles.bundles.set b
                  (some
                    { o with
                      limits := some l
                      committed := o.committed + 1
                      committedArea := area
                      closeReason := if reason.isSome then reason else o.closeReason }) } }) ∧
    (d = .endChute →
      (∀ w, rt = .reject w →
        takeEvent r s .psaLead = { s with track := track, sort := toChute }) ∧
      (∀ g c, rt = .graded g c →
        takeEvent r s .psaLead =
          { s with
            track := track
            sort := { toChute with gradedToChute := sat16 s.sort.gradedToChute }
            link := linkAfter [.chuteFallback r.number rt] s }) ∧
      (∀ w, rt = .regrade w →
        takeEvent r s .psaLead =
          { s with
            track := track
            sort := { toChute with regradeToChute := sat16 s.sort.regradeToChute }
            link := linkAfter [.chuteFallback r.number rt] s }))

/-- At the leading edge's event at the drop point of a record's bay the bay's over-gate count rises by
1, and at the trailing edge's it falls by 1 (R122); the record then drops: it leaves the track, the
in-transit count falls, the statistic of its destination kind rises, a bin's occupancy rises and stays
at 65,535, and a graded bay's bundle counts it (R18, R123). A record whose bay is END CHUTE passes every
drop point without effect and falls at Pend, with the statistic reject and the chute's occupancy (R19);
any other passes Pend without effect. When the chute comes to stand at or above its capacity BIN is
added, once, with a FULL event carrying the occupancy, and RUN goes to HOLD (R124). An assignment to a
MIXED bin or to the chute for want of a bay is counted as a fallback, to the chute with an event (R120).
What follows the new number of records is `afterCount`. LAMP-G's phase and the order STATE before
EFFECTIVE and FULL are the model's choices, notes/assumptions/35.md and 37.md. -/
def Obligations.DropsAreCounted : Prop :=
  (∀ (r : Strip) (b : Bay) (s : State),
    let gate (d : Nat → Nat) : State :=
      { s with
        sort :=
          { s.sort with
            bays :=
              s.sort.bays.set b { s.sort.bays[b] with overGate := d s.sort.bays[b].overGate } } }
    let left : State := leaveTrack r (gate (· - 1))
    let stat (f : Statistics → Statistics) (u : State) : State :=
      { u with track := { u.track with stats := f s.track.stats } }
    let filled (u : State) : State :=
      if s.cfg.bays[b] = .regrade ∨ s.cfg.bays[b] = .mixed then
        { u with
          sort :=
            { u.sort with
              bays :=
                u.sort.bays.set b
                  { u.sort.bays[b] with occupancy := sat16 s.sort.bays[b].occupancy } } }
      else u
    ((r.bay = some (.gradedBay b) ∨ r.bay = some (.regradeBin b) ∨ r.bay = some (.mixedBin b)) →
      takeEvent r s .pbLead = gate (· + 1) ∧ takeEvent r s .pendTrail = s) ∧
    (r.bay = some (.gradedBay b) →
      takeEvent r s .pbTrail =
        afterCount
          (dropInto b r.number (stat (fun t => { t with bundled := t.bundled + 1 }) left))) ∧
    (r.bay = some (.regradeBin b) →
      takeEvent r s .pbTrail =
        afterCount (filled (stat (fun t => { t with regrade := t.regrade + 1 }) left))) ∧
    (r.bay = some (.mixedBin b) →
      takeEvent r s .pbTrail =
        afterCount (filled (stat (fun t => { t with mixed := t.mixed + 1 }) left)))) ∧
  (∀ (r : Strip) (s : State),
    ((r.bay = none ∨ r.bay = some .endChute) →
      takeEvent r s .pbLead = s ∧ takeEvent r s .pbTrail = s) ∧
    (r.bay = none → takeEvent r s .pendTrail = s) ∧
    (r.bay = some .endChute →
      let left : State := leaveTrack r s
      let count : Count16 := sat16 s.sort.chuteOccupancy
      let fallen : State :=
        { left with
          track :=
            { left.track with
              stats := { s.track.stats with reject := s.track.stats.reject + 1 } }
          sort := { left.sort with chuteOccupancy := count } }
      let full : Prop :=
        s.cfg.bundling.chuteCapacity ≤ count.toNat ∧ .bin ∉ s.sup.holds
      (¬ full → takeEvent r s .pendTrail = afterCount fallen) ∧
      (full → s.sup.line ≠ .run →
        takeEvent r s .pendTrail =
          afterCount
            { fallen with
              sup := { s.sup with holds := holdsWith .bin s }
              link := linkAfter [.chuteFull count] s }) ∧
      (full → s.sup.line = .run →
        takeEvent r s .pendTrail =
          afterCount
            { fallen with
              sup :=
                { s.sup with
                  line := .hold
                  holds := holdsWith .bin s
                  holdEffective := fallen.track.strips.isEmpty
                  lampG := dimmed s }
              link := linkAfter (holdEvents fallen ++ [.chuteFull count]) s }))) ∧
  ∀ (n : StripNo) (rt : Route) (d : Destination) (s : State),
    (∀ g c b, rt = .graded g c → d = .mixedBin b →
      countFallback n rt d s =
        { s with sort := { s.sort with mixedFallbacks := sat16 s.sort.mixedFallbacks } }) ∧
    (∀ g c, rt = .graded g c → d = .endChute →
      countFallback n rt d s =
        { s with
          sort := { s.sort with gradedToChute := sat16 s.sort.gradedToChute }
          link := linkAfter [.chuteFallback n rt] s }) ∧
    (∀ w, rt = .regrade w → d = .endChute →
      countFallback n rt d s =
        { s with
          sort := { s.sort with regradeToChute := sat16 s.sort.regradeToChute }
          link := linkAfter [.chuteFallback n rt] s }) ∧
    (∀ w, rt = .reject w → countFallback n rt d s = s)

/-- BAY SET: refused RANGE naming the first field out of its range, INVALID (check 4) for a graded key
that the grading tables do not allow, STATE for a bay in use, also when the request repeats its role and
key, the model's choice (notes/assumptions/46.md); accepted, it writes the role into the working
configuration, sets the edited flag, and gives the bay its new entry and, for GRADED, a fresh bundle;
one that repeats the present role leaves the entry as it was. Outside START and READY no check is made;
in them it is, and its result and the line state follow it (R127, R128, R191). For a role other than
GRADED any grade and class bytes are taken and dropped: model's choice (notes/assumptions/31.md). BIN
EMPTIED sets a bin's occupancy to 0 and replies with the one before, leaving its in-transit count; for
the reject chute, BIN leaves the hold-source set, which can take HOLD to RUN, and EMPTIED is given,
after the STATE event, the model's choice (notes/assumptions/37.md); a bay that is no bin is NOT FOUND,
and any other number RANGE (R126). -/
def Obligations.BayAndBinRequestsAreServed : Prop :=
  (∀ (tag bay role grade cls : Byte) (b : Bay) (s : State), Listening s →
    let refused (e : Refuse) (n : Nat) : Host.Outcome State Fault Refusal :=
      .next (settle (answered 0x19 tag (.refused e n) s))
    let out := exec (.baySet tag [bay, role, grade, cls]) s
    let r : Role := roleOf role.toNat grade.toNat cls.toNat
    let keyFits : Prop :=
      role.toNat ≠ 0 ∨
        1 ≤ grade.toNat ∧ grade.toNat ≤ s.cfg.grades.count ∧ cls.toNat < s.cfg.classes.n
    ((bay.toNat < 1 ∨ 12 < bay.toNat) → out = refused .range 1) ∧
    (bay.toNat = b.val + 1 →
      (3 < role.toNat → out = refused .range 2) ∧
      (role.toNat = 0 → (grade.toNat < 1 ∨ 8 < grade.toNat) → out = refused .range 3) ∧
      (role.toNat = 0 → 1 ≤ grade.toNat → grade.toNat ≤ 8 → 15 < cls.toNat →
        out = refused .range 4) ∧
      (role.toNat ≤ 3 → (role.toNat = 0 → grade.toNat ≤ 8 ∧ 1 ≤ grade.toNat ∧ cls.toNat ≤ 15) →
        (¬ keyFits → out = refused .invalid 4) ∧
        (keyFits → s.bayInUse b = true → out = refused .state 0) ∧
        (keyFits → s.bayInUse b = false →
          let same : Prop := s.cfg.bays[b] = r
          let cfg : WorkingConfig :=
            { s.cfg with bays := if same then s.cfg.bays else s.cfg.bays.set b r }
          let k : Nat := checkResult cfg
          let accepted (check : Nat) (events : List Notice) : State :=
            { s with
              store := { s.store with working := cfg, edited := true, lastCheck := check }
              sort :=
                if same then s.sort
                else
                  { s.sort with
                    bays := s.sort.bays.set b
                      { s.sort.bays[b] with
                        state := if role.toNat = 0 then some .opened else none
                        occupancy := 0 } }
              bundles :=
                if same then s.bundles
                else
                  { s.bundles with
                    bundles := s.bundles.bundles.set b
                      (if role.toNat = 0 then
                        some (OpenBundle.fresh { grade := grade.toNat, cls := cls.toNat })
                      else none) }
              link := linkReplied 0x19 tag (.accepted []) events s }
          let idle (line : LineState) : Supervisor :=
            { s.sup with
              line := line, holds := s.sup.holds.filter (· != .guard), holdEffective := false
              window := .none, guard := .inactive, lampG := none }
          (s.sup.line ≠ .start → s.sup.line ≠ .ready →
            out = .next (settle (accepted s.store.lastCheck []))) ∧
          ((s.sup.line = .start ∧ k ≠ 0 ∨ s.sup.line = .ready ∧ k = 0) →
            out = .next (settle (accepted k []))) ∧
          (s.sup.line = .start → k = 0 →
            out =
              .next (settle
                { accepted k [.state .ready] with
                  sup := idle .ready })) ∧
          (s.sup.line = .ready → k ≠ 0 →
            out =
              .next (settle
                { accepted k [.state .start] with
                  sup := idle .start })))))) ∧
  (∀ (tag n : Byte) (s : State), Listening s →
    let out := exec (.binEmptied tag [n]) s
    (∀ b : Bay, n.toNat = b.val + 1 →
      ((s.cfg.bays[b] = .regrade ∨ s.cfg.bays[b] = .mixed) →
        out =
          .next (settle
            { s with
              sort :=
                { s.sort with bays := s.sort.bays.set b { s.sort.bays[b] with occupancy := 0 } }
              link :=
                linkReplied 0x1A tag (.accepted (u16 s.sort.bays[b].occupancy.toNat)) [] s })) ∧
      (s.cfg.bays[b] ≠ .regrade → s.cfg.bays[b] ≠ .mixed →
        out = .next (settle (answered 0x1A tag (.refused .notFound 0) s)))) ∧
    (n.toNat = 13 → .bin ∉ s.sup.holds →
      out =
        .next (settle
          { s with
            sort := { s.sort with chuteOccupancy := 0 }
            link :=
              linkReplied 0x1A tag (.accepted (u16 s.sort.chuteOccupancy.toNat))
                [.chuteEmptied s.sort.chuteOccupancy] s })) ∧
    (n.toNat = 13 → .bin ∈ s.sup.holds →
      (s.sup.line ≠ .hold ∨ s.sup.holds.filter (· != .bin) ≠ []) →
      out =
        .next (settle
          { s with
            sort := { s.sort with chuteOccupancy := 0 }
            sup := { s.sup with holds := s.sup.holds.filter (· != .bin) }
            link :=
              linkReplied 0x1A tag (.accepted (u16 s.sort.chuteOccupancy.toNat))
                [.chuteEmptied s.sort.chuteOccupancy] s })) ∧
    (n.toNat = 13 → .bin ∈ s.sup.holds → s.sup.line = .hold →
      s.sup.holds.filter (· != .bin) = [] →
      out =
        .next (settle
          { s with
            sort := { s.sort with chuteOccupancy := 0 }
            sup :=
              { s.sup with
                line := .run, holds := [], holdEffective := false, guard := guardAtRun s
                lampG := none }
            link :=
              linkReplied 0x1A tag (.accepted (u16 s.sort.chuteOccupancy.toNat))
                [.state .run, .chuteEmptied s.sort.chuteOccupancy] s })) ∧
    ((n.toNat = 0 ∨ 13 < n.toNat) →
      out = .next (settle (answered 0x1A tag (.refused .range 1) s))))

/-- NEXT NUMBER sets the next bundle number to one in 1 to 999,999,999 and replies with the number as it
stood before; another is refused RANGE. At a close the bundle takes the next bundle number, which then
rises by 1, wrapping from 999,999,999 to 1 (R139). BAY CLOSE, judged in order: RANGE, NOT FOUND without
a bundle, STATE unless the bay is OPEN with a committed strip; accepted, the bay is FILLED with reason
HOST, and closes at once when its dropped count equals its committed count: a dispatch record with the
next number, the date text and the bundle's counts, a composition request, CLOSING with a fresh bundle,
and a CLOSED event (R136, R137, R139 to R141). The counts of the reply are notes/assumptions/41.md. -/
def Obligations.BundleNumbersRunOn : Prop :=
  (∀ (tag a b c d : Byte) (s : State), Listening s →
    let n : Nat := a.toNat + 256 * (b.toNat + 256 * (c.toNat + 256 * d.toNat))
    (1 ≤ n → n ≤ 999999999 →
      exec (.nextNumber tag [a, b, c, d]) s =
        .next (settle
          { s with
            bundles := { s.bundles with nextNumber := n }
            link := linkReplied 0x1F tag (.accepted (u32 s.bundles.nextNumber)) [] s })) ∧
    ((n = 0 ∨ 999999999 < n) →
      exec (.nextNumber tag [a, b, c, d]) s =
        .next (settle (answered 0x1F tag (.refused .range 1) s)))) ∧
  (∀ (b : Bay) (o : OpenBundle) (reason : CloseReason) (s : State),
    (closeBundle b o reason s).bundles.dispatch.map (·.number) =
      s.bundles.dispatch.map (·.number) ++ [s.bundles.nextNumber] ∧
    (closeBundle b o reason s).bundles.nextNumber =
      if s.bundles.nextNumber = 999999999 then 1 else s.bundles.nextNumber + 1) ∧
  (∀ (tag n : Byte) (b : Bay) (o : OpenBundle) (l : BundleLimits) (s : State), Listening s →
    let out := exec (.bayClose tag [n]) s
    let refused (e : Refuse) (d : Nat) : Host.Outcome State Fault Refusal :=
      .next (settle (answered 0x1D tag (.refused e d) s))
    ((n = 0 ∨ 12 < n.toNat) → out = refused .range 1) ∧
    (n.toNat = b.val + 1 → s.bundles.bundles[b] = none → out = refused .notFound 0) ∧
    (n.toNat = b.val + 1 → s.bundles.bundles[b] = some o →
      (s.sort.bays[b].state ≠ some .opened → out = refused .state 0) ∧
      (s.sort.bays[b].state = some .opened → o.committed = 0 → out = refused .state 0) ∧
      (s.sort.bays[b].state = some .opened → 0 < o.committed → o.dropped ≠ o.committed →
        out =
          .next (settle
            { s with
              sort :=
                { s.sort with
                  bays := s.sort.bays.set b { s.sort.bays[b] with state := some .filled } }
              bundles :=
                { s.bundles with
                  bundles := s.bundles.bundles.set b (some { o with closeReason := some .host }) }
              link :=
                linkReplied 0x1D tag
                  (.accepted [1, BitVec.ofNat 8 o.committed, BitVec.ofNat 8 o.dropped]) [] s })) ∧
      (s.sort.bays[b].state = some .opened → 0 < o.committed → o.dropped = o.committed →
        o.limits = some l → s.labels.composing ≠ none →
        out =
          .next (settle
            { s with
              sort :=
                { s.sort with
                  bays := s.sort.bays.set b { s.sort.bays[b] with state := some .closing } }
              bundles :=
                { s.bundles with
                  bundles := s.bundles.bundles.set b (some (OpenBundle.fresh o.key))
                  nextNumber :=
                    if s.bundles.nextNumber = 999999999 then 1 else s.bundles.nextNumber + 1
                  dispatch := s.bundles.dispatch ++
                    [{ number := s.bundles.nextNumber, bay := b, grade := o.key.grade
                       nominal := l.nominal, width := l.width, count := o.dropped
                       area := o.droppedArea, first := o.first.getD 0, last := o.last.getD 0
                       lot := o.lot.getD (spaces 12), date := s.bundles.date, reason := .host
                       label := .requested, reprints := 0, overflowed := false }] }
              labels := { s.labels with requests := s.labels.requests ++ [b] }
              link :=
                linkReplied 0x1D tag
                  (.accepted [2, BitVec.ofNat 8 o.committed, BitVec.ofNat 8 o.dropped])
                  [.closed b s.bundles.nextNumber .host o.dropped o.droppedArea] s }))))

/-- A bundle's areas follow its counts and its own limits through every commitment and every drop, and
an empty bundle takes its limits at its first commitment: class nominal of its key, width, target × 1000
and max strips (R134, R135). The commitment to a graded bay is tested: a committed area at or above the
target makes the bay FILLED with reason TARGET, else a count equal to max strips FILLED with reason
COUNT, else it stays OPEN (R134). A drop counts its strip, the first one with the lot code, and a FILLED
bay whose dropped count comes to equal its committed count closes with its reason; one not FILLED, or
with strips still to come, does not (R135, R136). A close gives the number, a dispatch record at the
tail of the list, CLOSING with a fresh bundle and a CLOSED event, and a composition request that the
composer may take at once (R136, R141). At the run-end closure, with close at run end yes, every OPEN
bay with a dropped count closes so with reason RUN END, in bay order; else none (R138). -/
def Obligations.BundlesFillAndClose : Prop :=
  (∀ (o : OpenBundle) (cfg : WorkingConfig) (n : StripNo) (lot : List Byte),
    (∀ key, AreasFollowCounts (OpenBundle.fresh key)) ∧
    (AreasFollowCounts o → AreasFollowCounts (o.commit cfg)) ∧
    (AreasFollowCounts o → 0 < o.committed → AreasFollowCounts (o.drop n lot)) ∧
    (o.committed = 0 →
      (o.commit cfg).limits =
        some
          { nominal := cfg.classes.m + o.key.cls * cfg.classes.s, width := cfg.line.width
            target := cfg.bundling.target * 1000, maxStrips := cfg.bundling.maxStrips }) ∧
    (0 < o.committed → AreasFollowCounts o → (o.commit cfg).limits = o.limits)) ∧
  (∀ (b : Bay) (o : OpenBundle) (l : BundleLimits) (s : State),
    s.bundles.bundles[b] = some o → (o.commit s.cfg).limits = some l →
    let area : Nat := o.committedArea + l.nominal * l.width
    let kept (reason : Option CloseReason) : BundleUnit :=
      { s.bundles with
        bundles :=
          s.bundles.bundles.set b
            (some
              { o with
                limits := some l
                committed := o.committed + 1
                committedArea := area
                closeReason := reason }) }
    let fills (reason : CloseReason) : State :=
      { s with
        bundles := kept (some reason)
        sort :=
          { s.sort with
            bays := s.sort.bays.set b { s.sort.bays[b] with state := some .filled } } }
    (l.target ≤ area → commitTo b s = fills .target) ∧
    (area < l.target → o.committed + 1 = l.maxStrips → commitTo b s = fills .count) ∧
    (area < l.target → o.committed + 1 ≠ l.maxStrips →
      commitTo b s = { s with bundles := kept o.closeReason })) ∧
  (∀ (b : Bay) (o : OpenBundle) (l : BundleLimits) (n : StripNo) (s : State),
    s.bundles.bundles[b] = some o → o.limits = some l →
    let first : Bool := o.dropped == 0
    let o' : OpenBundle :=
      { o with
        dropped := o.dropped + 1
        droppedArea := o.droppedArea + l.nominal * l.width
        first := if first then some n else o.first
        lot := if first then some s.bundles.lot else o.lot
        last := some n }
    let counted : State :=
      { s with bundles := { s.bundles with bundles := s.bundles.bundles.set b (some o') } }
    ((s.sort.bays[b].state ≠ some .filled ∨ o.dropped + 1 ≠ o.committed) →
      dropInto b n s = counted) ∧
    (∀ reason, s.sort.bays[b].state = some .filled → o.dropped + 1 = o.committed →
      o.closeReason = some reason → dropInto b n s = closeBundle b o' reason counted)) ∧
  (∀ (b : Bay) (o : OpenBundle) (l : BundleLimits) (reason : CloseReason) (s : State),
    o.limits = some l →
    closeBundle b o reason s =
      composerBegin
        { s with
          sort :=
            { s.sort with
              bays := s.sort.bays.set b { s.sort.bays[b] with state := some .closing } }
          bundles :=
            { s.bundles with
              bundles := s.bundles.bundles.set b (some (OpenBundle.fresh o.key))
              nextNumber :=
                if s.bundles.nextNumber = 999999999 then 1 else s.bundles.nextNumber + 1
              dispatch := s.bundles.dispatch ++
                [{ number := s.bundles.nextNumber, bay := b, grade := o.key.grade
                   nominal := l.nominal, width := l.width, count := o.dropped
                   area := o.droppedArea, first := o.first.getD 0, last := o.last.getD 0
                   lot := o.lot.getD (spaces 12), date := s.bundles.date, reason := reason
                   label := .requested, reprints := 0, overflowed := false }] }
          labels := { s.labels with requests := s.labels.requests ++ [b] }
          link := linkAfter [.closed b s.bundles.nextNumber reason o.dropped o.droppedArea] s }) ∧
  ∀ s : State,
    let closes (b : Bay) : Prop :=
      s.sort.bays[b].state = some .opened ∧ ∃ o, s.bundles.bundles[b] = some o ∧ 0 < o.dropped
    (s.cfg.bundling.closeAtRunEnd = false → runEndClosure s = s) ∧
    ((∀ b, ¬ closes b) → runEndClosure s = s) ∧
    (∀ bs : List Bay, s.cfg.bundling.closeAtRunEnd = true → bs.Pairwise (· < ·) →
      (∀ b, b ∈ bs ↔ closes b) →
      runEndClosure s =
        bs.foldl (fun u b => match s.bundles.bundles[b] with
          | some o => closeBundle b o .runEnd u
          | none => u) s)

/-- The label area is the area plus 500 divided by 1000 with the fraction dropped: the area rounded to
the nearest 0.001 m², an exact half rounded up, at most 10,527 for every area below 10,527,000 mm²
(R144); LOAD of the area field puts it into the digit register, and the dispatch record ends with it. A
value loaded at a width that it fits, emitted whole: with the significance toggle forced, as that many
decimal digits, and without, with the leading zeros replaced by special character 0; the digits spell
the value (R157, R158). -/
def Obligations.LabelAreaIsRounded : Prop :=
  (∀ a : Nat, 2 * a < 2000 * labelArea a + 1000 ∧ 2000 * labelArea a ≤ 2 * a + 1000) ∧
  (∀ a : Nat, a < 10527000 → labelArea a ≤ 10527) ∧
  (∀ (c : Composition) (w : Byte), 1 ≤ w.toNat → w.toNat ≤ 10 →
    labelArea c.record.area < 10 ^ w.toNat →
    ∃ c', loadStep c [3, w] = .go c' ∧ c'.digits = decimal w.toNat (labelArea c.record.area) ∧
      c'.overflowed = false) ∧
  (∀ r : DispatchRecord, ∃ front, r.bytes = front ++ u16 (labelArea r.area)) ∧
  (∀ (c : Composition) (f w : Byte) (v : Nat), numericField c.record f.toNat = some v →
    1 ≤ w.toNat → w.toNat ≤ 10 → v < 10 ^ w.toNat → c.output.length + w.toNat ≤ 240 →
    let ds : List Nat := decimal w.toNat v
    let zeros : Nat := (ds.takeWhile (· == 0)).length
    let digit (d : Nat) : Byte := BitVec.ofNat 8 (48 + d)
    ds.length = w.toNat ∧ (∀ d ∈ ds, d ≤ 9) ∧ ds.foldl (fun a d => 10 * a + d) 0 = v ∧
    ∃ c₁, loadStep c [f, w] = .go c₁ ∧
      (∃ c₂ c₃, forceStep c₁ [] = .go c₂ ∧ digitsStep c₂ [w] = .go c₃ ∧
        c₃.output = c.output ++ ds.map digit ∧ c₃.remaining = 0) ∧
      ∃ c₃, digitsStep c₁ [w] = .go c₃ ∧
        c₃.output =
          c.output ++ List.replicate zeros c.specials.fill ++ (ds.drop zeros).map digit)

/-! ### Texts, templates and compositions -/

/-- LOT SET replaces each character outside the allowed set by the substitute character, sets the lot
code and the date text, and replies with how many it replaced (R140, R151). TEMPLATE WRITE stores its
bytes in the slot and sets the edited flag, or is refused RANGE for a slot outside 1 to 8, LENGTH for
more than 192 bytes, and BUSY for the slot of the composition in flight (R148); a body without a slot
byte is refused LENGTH, the model's choice (notes/assumptions/27.md). In START and READY the consistency
check then follows: a pass moves START to READY and a failure READY to START, with a STATE event; in the
other states no check is made (R148, R190, R191). -/
def Obligations.TextsAndTemplatesAreStored : Prop :=
  ∀ (tag : Byte) (s : State), Listening s →
    (∀ body : List Byte, body.length = 22 →
      let text : List Byte :=
        body.map (fun c =>
          if s.cfg.allowed.getLsbD c.toNat then c else s.cfg.label.substitute)
      exec (.lotSet tag body) s =
        .next (settle
          { s with
            bundles := { s.bundles with lot := text.take 12, date := text.drop 12 }
            link :=
              linkReplied 0x1E tag
                (.accepted
                  [BitVec.ofNat 8 (body.countP (fun c => !s.cfg.allowed.getLsbD c.toNat))]) [] s })) ∧
    exec (.templateWrite tag []) s = .next (settle (answered 0x20 tag (.refused .length 0) s)) ∧
    (∀ (slot : Byte) (bytes : List Byte),
      let out := exec (.templateWrite tag (slot :: bytes)) s
      ((slot.toNat < 1 ∨ 8 < slot.toNat) →
        out = .next (settle (answered 0x20 tag (.refused .range 1) s))) ∧
      (∀ k : Fin 8, slot.toNat = k.val + 1 →
        (192 < bytes.length →
          out = .next (settle (answered 0x20 tag (.refused .length 0) s))) ∧
        (bytes.length ≤ 192 → (∃ c, s.labels.composing = some c ∧ c.slot = k) →
          out = .next (settle (answered 0x20 tag (.refused .busy 0) s))) ∧
        (bytes.length ≤ 192 → (∀ c, s.labels.composing = some c → c.slot ≠ k) →
          let new : WorkingConfig := { s.cfg with templates := s.cfg.templates.set k bytes }
          let result : Nat := checkResult new
          let reply (events : List Notice) : HostLink :=
            linkReplied 0x20 tag (.accepted []) events s
          let checked : ConfigStore :=
            { s.store with working := new, edited := true, lastCheck := result }
          let moved (line : LineState) : State :=
            { s with
              store := checked
              sup := idleSupervisor line s
              link := reply [.state line] }
          (s.sup.line ≠ .start → s.sup.line ≠ .ready →
            out =
              .next (settle
                { s with
                  store := { s.store with working := new, edited := true }, link := reply [] })) ∧
          ((s.sup.line = .start ∧ result ≠ 0 ∨ s.sup.line = .ready ∧ result = 0) →
            out = .next (settle { s with store := checked, link := reply [] })) ∧
          (s.sup.line = .start → result = 0 → out = .next (settle (moved .ready))) ∧
          (s.sup.line = .ready → result ≠ 0 → out = .next (settle (moved .start))))))

/-- The steps that emit, when they stand at the cursor with operands in range and the output text has
room: TEXT its characters, MARK and PUT a special character, FILL special character 0 n times, COPY a
text field at a width, LINE the line end; text fields 1 to 4 are the grade name of 12, the lot code of
12, the date text of 10 and the line name of 8 characters, the lot and date those of the record in
flight, the names those the composition took at its beginning (R153), and a text is space-padded to its
length (R195); the cursor moves past the step and nothing else changes (R155, R156, R160; codes of 13,
13.6). A TEXT without room faults LONG (R155); the other faults of these steps are CompositionsEnd's. -/
def Obligations.EmittingStepsAddCharacters : Prop :=
  ∀ (c : Composition) (rest : List Byte) (s : State), s.powered = true →
    s.labels.composing = some c →
    let at_ (bytes : List Byte) : Prop := c.template.drop c.cursor = bytes ++ rest
    let emits (size : Nat) (chars : List Byte) : Host.Outcome State Fault Refusal :=
      .next (settle
        { s with
          labels :=
            { s.labels with
              composing :=
                some { c with output := c.output ++ chars, cursor := c.cursor + size } } })
    let room (n : Nat) : Prop := c.output.length + n ≤ 240
    (∀ (n : Byte) (chars : List Byte), at_ (1 :: n :: chars) → chars.length = n.toNat →
      1 ≤ n.toNat → n.toNat ≤ 64 →
      (room n.toNat → exec .stepText s = emits (2 + n.toNat) chars) ∧
      (240 < c.output.length + n.toNat →
        exec .stepText s = .next (settle (composeFault .long c s)))) ∧
    (∀ k : Byte, at_ [5, k] → k.toNat ≤ 3 → room 1 →
      exec .stepMark s =
        emits 2 [if c.significance then special c.specials k.toNat else c.specials.fill]) ∧
    (∀ k : Byte, at_ [6, k] → k.toNat ≤ 3 → room 1 →
      exec .stepPut s = emits 2 [special c.specials k.toNat]) ∧
    (∀ n : Byte, at_ [7, n] → 1 ≤ n.toNat → n.toNat ≤ 64 → room n.toNat →
      exec .stepFill s = emits 2 (List.replicate n.toNat c.specials.fill)) ∧
    let padded (size : Nat) (t : List Byte) : List Byte :=
      (t ++ List.replicate size 0x20).take size
    let texts : List (List Byte) :=
      [padded 12 c.gradeName, padded 12 c.record.lot, padded 10 c.record.date, padded 8 c.lineName]
    (∀ (f w : Byte) (t : List Byte), at_ [9, f, w] → 1 ≤ f.toNat → texts[f.toNat - 1]? = some t →
      1 ≤ w.toNat → w.toNat ≤ 12 → room w.toNat →
      exec .stepCopy s =
        emits 3 (t.take w.toNat ++ List.replicate (w.toNat - t.length) c.specials.fill)) ∧
    (at_ [11] → room 1 → exec .stepLine s = emits 1 [10])

/-- The steps that work on the digit register and the specials: LOAD places a numeric field of the
record in flight in the register, or marks it overflowed, and sets the toggles and the load mark: fields
1 to 10 are the bundle number, strip count, label area (R144), nominal, width, grade, bay from 1, first
strip, last strip and reprint count (R157); DIGITS takes the next digits of the register: zeros ahead of
the first significant digit are filled while the significance toggle is false, which that digit sets,
and every other digit prints as itself; an overflowed register gives overflow characters; and it faults
EXHAUSTED when the digits are not at hand (R155, R158); FORCE sets the significance toggle (R158);
SETCHAR a special character (R156); BLANKZERO cuts the output back to the load mark and fills when the
zero toggle is true (R159). -/
def Obligations.RegisterStepsSetTheirState : Prop :=
  ∀ (c : Composition) (rest : List Byte) (s : State), s.powered = true →
    s.labels.composing = some c →
    let at_ (bytes : List Byte) : Prop := c.template.drop c.cursor = bytes ++ rest
    let goes (c' : Composition) : Host.Outcome State Fault Refusal :=
      .next (settle { s with labels := { s.labels with composing := some c' } })
    let d : DispatchRecord := c.record
    let fields : List Nat :=
      [d.number, d.count, (d.area + 500) / 1000, d.nominal, d.width, d.grade, d.bay.val + 1,
        d.first.toNat, d.last.toNat, d.reprints]
    (∀ (f w : Byte) (v : Nat), at_ [2, f, w] → 1 ≤ f.toNat → fields[f.toNat - 1]? = some v →
      1 ≤ w.toNat → w.toNat ≤ 10 →
      exec .stepLoad s =
        goes
          { c with
            cursor := c.cursor + 3
            digits := if 10 ^ w.toNat ≤ v then [] else decimal w.toNat v
            remaining := w.toNat
            overflowed := decide (10 ^ w.toNat ≤ v)
            loaded := true
            significance := false
            zero := v == 0
            loadMark := c.output.length
            overflowSeen :=
              if 10 ^ w.toNat ≤ v then c.overflowSeen <|> some f.toNat else c.overflowSeen }) ∧
    (∀ n : Byte, at_ [3, n] → 1 ≤ n.toNat → n.toNat ≤ 10 →
      ((c.loaded = false ∨ c.remaining < n.toNat) →
        exec .stepDigits s = .next (settle (composeFault .exhausted c s))) ∧
      (c.loaded = true → n.toNat ≤ c.remaining → c.output.length + n.toNat ≤ 240 →
        (c.overflowed = true →
          exec .stepDigits s =
            goes
              { c with
                cursor := c.cursor + 2
                remaining := c.remaining - n.toNat
                output := c.output ++ List.replicate n.toNat c.specials.overflow }) ∧
        (c.overflowed = false →
          let taken : List Nat := (c.digits.drop (c.digits.length - c.remaining)).take n.toNat
          let digit (d : Nat) : Byte := BitVec.ofNat 8 (48 + d)
          let emits (sig : Bool) (chars : List Byte) : Composition :=
            { c with
              cursor := c.cursor + 2
              remaining := c.remaining - n.toNat
              significance := sig
              output := c.output ++ chars }
          (c.significance = true → exec .stepDigits s = goes (emits true (taken.map digit))) ∧
          (∀ zeros shown, c.significance = false → taken = List.replicate zeros 0 ++ shown →
            shown.head? ≠ some 0 →
            exec .stepDigits s =
              goes
                (emits (!shown.isEmpty)
                  (List.replicate zeros c.specials.fill ++ shown.map digit)))))) ∧
    (at_ [4] → exec .stepForce s = goes { c with cursor := c.cursor + 1, significance := true }) ∧
    (∀ k ch : Byte, at_ [8, k, ch] → k.toNat ≤ 3 →
      exec .stepSetchar s =
        goes
          { c with
            cursor := c.cursor + 3
            specials :=
              { fill := if k.toNat = 0 then ch else c.specials.fill
                point := if k.toNat = 1 then ch else c.specials.point
                overflow := if k.toNat = 2 then ch else c.specials.overflow
                separator := if k.toNat = 3 then ch else c.specials.separator } }) ∧
    (∀ n : Byte, at_ [10, n] → n.toNat ≤ 64 →
      (c.zero = false → exec .stepBlankzero s = goes { c with cursor := c.cursor + 2 }) ∧
      (c.zero = true → min c.loadMark c.output.length + n.toNat ≤ 240 →
        exec .stepBlankzero s =
          goes
            { c with
              cursor := c.cursor + 2
              output :=
                c.output.take c.loadMark ++ List.replicate n.toNat c.specials.fill }))

/-- END translates the output text and puts the label at the tail of the label queue, its record QUEUED
and the composer IDLE, and, when a numeric field lost significance, marks the record with an event
(R150, R161). With the printer ONLINE, its ready flag seen and no label in flight the head label is then
sent (R168); with a request waiting and room left in the label queue its composition begins, and with
none it waits (R153). OVERRUN, where the template ends without END or a step's bytes run beyond the end,
and BADSTEP, where the code is none of the twelve, fault; so does a step, when it is read, whose
argument is out of range or whose field number names no field, BADSTEP, and an emitting step that would
take the output text past 240 codes, LONG (R155 to R160): the record is FAILED with cause TEMPLATE, its
bay BLOCKED, a FAILED event carries fault, slot and cursor, and no label is made (R162). Which row of
the table brings which of these faults is the model's reading (notes/assumptions/4.md). -/
def Obligations.CompositionsEnd : Prop :=
  (∀ (c : Composition) (s : State), s.powered = true → s.labels.composing = some c →
    s.labels.requests = [] →
    let b : Bay := c.record.bay
    let named (f : DispatchRecord → DispatchRecord) : BundleUnit :=
      { s.bundles with
        dispatch := s.bundles.dispatch.map (fun r => if r.bay == b then f r else r) }
    let label : Label :=
      { number := c.record.number, bay := b
        text := c.output.map (fun code => s.cfg.translate.getD code.toNat code), printed := false }
    let composed : LabelComposer :=
      { s.labels with
        composing := none
        queue := s.labels.queue ++ [label]
        completed := sat16 s.labels.completed }
    let faulted (f : TemplateFault) : Host.Outcome State Fault Refusal :=
      let last : LastFault := { fault := f, slot := c.slot, cursor := c.cursor }
      .next (settle
        { s with
          labels :=
            { s.labels with
              composing := none, faults := sat16 s.labels.faults, lastFault := some last }
          bundles := named (fun r => { r with label := .failed (.template f) })
          sort :=
            { s.sort with
              bays := s.sort.bays.set b { s.sort.bays[b] with state := some .blocked } }
          link := linkAfter [.failedTemplate b c.record.number last] s })
    (∀ rest, c.template.drop c.cursor = 12 :: rest → s.printer.ready = false →
      (c.overflowSeen = none →
        exec .stepEnd s =
          .next (settle
            { s with
              labels := composed, bundles := named (fun r => { r with label := .queued }) })) ∧
      (∀ field, c.overflowSeen = some field →
        exec .stepEnd s =
          .next (settle
            { s with
              labels := { composed with overflows := sat16 s.labels.overflows }
              bundles := named (fun r => { r with label := .queued, overflowed := true })
              link := linkAfter [.fieldOverflow b c.record.number field] s }))) ∧
    let long (n : Nat) : Prop := 240 < c.output.length + n
    (c.template.drop c.cursor = [] → exec .overrun s = faulted .overrun) ∧
    (∀ code rest, c.template.drop c.cursor = code :: rest →
      ((code.toNat = 0 ∨ 12 < code.toNat) → exec .badstep s = faulted .badStep) ∧
      ((code = 1 ∧ rest.length ≤ (rest.headD 0).toNat ∨
          (code = 2 ∨ code = 8 ∨ code = 9) ∧ rest.length < 2 ∨
          (code = 3 ∨ code = 5 ∨ code = 6 ∨ code = 7 ∨ code = 10) ∧ rest = []) →
        exec .overrun s = faulted .overrun)) ∧
    ∀ (x y : Byte) (rest : List Byte),
      let at_ (bytes : List Byte) : Prop := c.template.drop c.cursor = bytes ++ rest
      let n : Nat := x.toNat
      (at_ [1, x] → n ≤ rest.length → (n = 0 ∨ 64 < n) → exec .stepText s = faulted .badStep) ∧
      (at_ [2, x, y] → (n = 0 ∨ 10 < n ∨ y = 0 ∨ 10 < y.toNat) →
        exec .stepLoad s = faulted .badStep) ∧
      (at_ [3, x] → (n = 0 ∨ 10 < n) → exec .stepDigits s = faulted .badStep) ∧
      (at_ [5, x] → 3 < n → exec .stepMark s = faulted .badStep) ∧
      (at_ [6, x] → 3 < n → exec .stepPut s = faulted .badStep) ∧
      (at_ [7, x] → (n = 0 ∨ 64 < n) → exec .stepFill s = faulted .badStep) ∧
      (at_ [8, x, y] → 3 < n → exec .stepSetchar s = faulted .badStep) ∧
      (at_ [9, x, y] → (n = 0 ∨ 4 < n ∨ y = 0 ∨ 12 < y.toNat) →
        exec .stepCopy s = faulted .badStep) ∧
      (at_ [10, x] → 64 < n → exec .stepBlankzero s = faulted .badStep) ∧
      (at_ [3, x] → 1 ≤ n → n ≤ 10 → c.loaded = true → n ≤ c.remaining →
        (c.overflowed = true ∨ c.remaining ≤ c.digits.length) → long n →
        exec .stepDigits s = faulted .long) ∧
      (at_ [5, x] → n ≤ 3 → long 1 → exec .stepMark s = faulted .long) ∧
      (at_ [6, x] → n ≤ 3 → long 1 → exec .stepPut s = faulted .long) ∧
      (at_ [7, x] → 1 ≤ n → n ≤ 64 → long n → exec .stepFill s = faulted .long) ∧
      (at_ [9, x, y] → 1 ≤ n → n ≤ 4 → 1 ≤ y.toNat → y.toNat ≤ 12 → long y.toNat →
        exec .stepCopy s = faulted .long) ∧
      (at_ [10, x] → n ≤ 64 → c.zero = true → 240 < min c.loadMark c.output.length + n →
        exec .stepBlankzero s = faulted .long) ∧
      (at_ [11] → long 1 → exec .stepLine s = faulted .long)) ∧
  ∀ (c : Composition) (rest : List Byte) (s : State), s.powered = true →
    s.labels.composing = some c → c.template.drop c.cursor = 12 :: rest → c.overflowSeen = none →
    let label : Label :=
      { number := c.record.number, bay := c.record.bay
        text := c.output.map (fun code => s.cfg.translate.getD code.toNat code), printed := false }
    let marked (b : Bay) (st : LabelState) (rs : List DispatchRecord) : List DispatchRecord :=
      rs.map (fun r => if r.bay = b then { r with label := st } else r)
    let queued : List DispatchRecord := marked c.record.bay .queued s.bundles.dispatch
    let composed : LabelComposer :=
      { s.labels with
        composing := none
        queue := s.labels.queue ++ [label]
        completed := sat16 s.labels.completed }
    (∀ l more, s.labels.requests = [] → s.printer.online = true → s.printer.ready = true →
      s.printer.inFlight = false → s.labels.queue ++ [label] = l :: more →
      exec .stepEnd s =
        .next (settle
          { s with
            labels := composed
            bundles := { s.bundles with dispatch := marked l.bay .sent queued }
            printer :=
              { s.printer with
                ready := false, inFlight := true
                applyExpiry := some (s.now + 4000 * s.cfg.label.applyTimeout)
                sent := sat16 s.printer.sent
                tx := s.printer.tx ++ [fieldFrame 0x22 (u32 l.number ++ l.text)] } })) ∧
    (s.labels.requests = [] → (s.printer.online = false ∨ s.printer.inFlight = true) →
      exec .stepEnd s =
        .next (settle
          { s with labels := composed, bundles := { s.bundles with dispatch := queued } })) ∧
    ∀ (b : Bay) (bs : List Bay) (r : DispatchRecord), s.labels.requests = b :: bs →
      (s.printer.ready = false ∨ s.printer.online = false ∨ s.printer.inFlight = true) →
      (3 ≤ s.labels.queue.length →
        exec .stepEnd s =
          .next (settle
            { s with labels := composed, bundles := { s.bundles with dispatch := queued } })) ∧
      (s.labels.queue.length < 3 → queued.find? (fun q => q.bay == b) = some r →
        exec .stepEnd s =
          .next (settle
            { s with
              labels :=
                { composed with
                  requests := bs
                  composing :=
                    some
                      { record := { r with label := .composing }
                        slot := s.cfg.label.slot
                        template := s.cfg.templates[s.cfg.label.slot]
                        gradeName := gradeName s.cfg r.grade
                        lineName := s.cfg.line.lineName } }
              bundles := { s.bundles with dispatch := marked b .composing queued } }))

/-! ### The printer -/

/-- READY makes the ready flag seen in any state. With the printer ONLINE, no label in flight and a
label in the queue, the head label is sent: LABEL goes on the line, the record becomes SENT, the ready
flag is not seen, the apply timer starts with the apply timeout as it stands and labels sent rises
(R167, R168). With the printer OFFLINE, a label in flight or the queue empty nothing is sent (R168).
PRINTED naming the label in flight sets its printed mark and its record's label state, and the apply
timer runs on; any other PRINTED is stray: the counter rises and STRAY carries the message kind and the
number (R169). -/
def Obligations.LabelsAreSentAndPrinted : Prop :=
  (∀ (l : Label) (rest : List Label) (s : State), s.powered = true →
    (s.printer.online = true → s.printer.inFlight = false → s.labels.queue = l :: rest →
      exec .printerReady s =
        .next (settle
          { s with
            printer :=
              { s.printer.hunting with
                ready := false, inFlight := true
                applyExpiry := some (s.now + 4000 * s.cfg.label.applyTimeout)
                sent := sat16 s.printer.sent
                tx := s.printer.tx ++ [fieldFrame 0x22 (u32 l.number ++ l.text)] }
            bundles :=
              { s.bundles with
                dispatch := s.bundles.dispatch.map (fun r =>
                  if r.bay = l.bay then { r with label := .sent } else r) } })) ∧
    ((s.printer.online = false ∨ s.printer.inFlight = true ∨ s.labels.queue = []) →
      exec .printerReady s =
        .next (settle { s with printer := { s.printer.hunting with ready := true } }))) ∧
  (∀ (n : BitVec 32) (l : Label) (rest : List Label) (s : State), s.powered = true →
    (s.printer.inFlight = true → s.labels.queue = l :: rest → l.number = n.toNat →
      exec (.printed n) s =
        .next (settle
          { s with
            printer := s.printer.hunting
            labels := { s.labels with queue := { l with printed := true } :: rest }
            bundles :=
              { s.bundles with
                dispatch := s.bundles.dispatch.map (fun r =>
                  if r.bay = l.bay then { r with label := .printed } else r) } })) ∧
    ((s.printer.inFlight = false ∨ s.labels.queue = l :: rest ∧ l.number ≠ n.toNat) →
      exec (.printed n) s =
        .next (settle
          { s with
            printer := { s.printer.hunting with stray := sat16 s.printer.stray }
            link := linkAfter [.printerStray 0x23 n] s })))

/-- APPLIED naming the label in flight stops the timer, takes the label off the head of the queue and
completes the dispatch: the record leaves the dispatch list, DISPATCHED carries it whole with label
state APPLIED, the bay becomes OPEN and the applied counter rises; a pending IDLE event follows with the
number of labels queued (R143, R170, R174). Stated with no composition waiting and no label that could
go next; the rest is said next. One naming the last failed label gives LATE APPLY on its bay, any other
is stray, and neither changes a label, a timer or a record (R170). At the end of a label, whichever way
it ends, the sending test sends the next head label when the printer is ONLINE and its ready flag is
seen (R168, R174), and a composition waiting begins in the room the label left (R153, R170): said of
APPLIED, with a second label queued and a request waiting. -/
def Obligations.AppliedIsJudged : Prop :=
  (∀ (n : BitVec 32) (l : Label) (rest : List Label) (r : DispatchRecord) (b : Bay) (s : State),
    s.powered = true →
    (s.printer.inFlight = true → s.labels.queue = l :: rest → l.number = n.toNat →
      s.bundles.dispatch.find? (fun r => r.bay == l.bay) = some r → s.labels.requests = [] →
      (s.printer.ready = false ∨ s.printer.online = false ∨ rest = []) →
      exec (.applied n) s =
        .next (settle
          { s with
            printer :=
              { s.printer.hunting with
                inFlight := false, applyExpiry := none, idlePending := false
                applied := sat16 s.printer.applied }
            labels := { s.labels with queue := rest }
            bundles :=
              { s.bundles with dispatch := s.bundles.dispatch.filter (fun q => q.bay != l.bay) }
            sort :=
              { s.sort with
                bays := s.sort.bays.set l.bay { s.sort.bays[l.bay] with state := some .opened } }
            link :=
              linkAfter (.dispatched l.bay { r with label := .applied } ::
                (if s.printer.idlePending = true then [.printerIdle (some rest.length)] else []))
                s })) ∧
    ((s.printer.inFlight = false ∨ s.labels.queue = l :: rest ∧ l.number ≠ n.toNat) →
      (s.printer.lastFailed = some (n.toNat, b) →
        exec (.applied n) s =
          .next (settle
            { s with
              printer := { s.printer.hunting with lateApplies := sat16 s.printer.lateApplies }
              link := linkAfter [.lateApply b n.toNat] s })) ∧
      ((∀ c, s.printer.lastFailed ≠ some (n.toNat, c)) →
        exec (.applied n) s =
          .next (settle
            { s with
              printer := { s.printer.hunting with stray := sat16 s.printer.stray }
              link := linkAfter [.printerStray 0x24 n] s })))) ∧
  (∀ (n : BitVec 32) (l m : Label) (rest : List Label) (c : Bay) (cs : List Bay)
    (r q : DispatchRecord) (s : State),
    s.powered = true → s.printer.inFlight = true → s.printer.online = true →
    s.printer.ready = true → s.labels.queue = l :: m :: rest → rest.length ≤ 2 →
    l.number = n.toNat → s.labels.composing = none → s.labels.requests = c :: cs → c ≠ l.bay →
    c ≠ m.bay →
    s.bundles.dispatch.find? (fun r => r.bay == l.bay) = some r →
    s.bundles.dispatch.find? (fun r => r.bay == c) = some q →
    ∃ t, exec (.applied n) s = .next t ∧ t.labels.queue = m :: rest ∧ t.printer.inFlight = true ∧
      t.printer.ready = false ∧
      t.printer.applyExpiry = some (s.now + 4000 * s.cfg.label.applyTimeout) ∧
      t.printer.tx = s.printer.tx ++ [fieldFrame 0x22 (u32 m.number ++ m.text)] ∧
      t.labels.requests = cs ∧
      t.labels.composing =
        some
          { record := { q with label := .composing }, slot := s.cfg.label.slot
            template := s.cfg.templates[s.cfg.label.slot]
            gradeName := gradeName s.cfg q.grade, lineName := s.cfg.line.lineName })

/-- FAULT naming the label in flight fails it with cause PRINTER and the code, and the apply timer's
expiry fails it with cause TIMEOUT: the label leaves the head of the queue, its record is FAILED, its
bay BLOCKED, FAILED is given on the bay's source, it becomes the last failed label, and the ready flag
stays as it is; a pending IDLE event follows (R171, R172, R174). Stated with no composition waiting and
no label that could go next; AppliedIsJudged says the rest. Any other FAULT is stray (R171); before the
expiry, or with no label in flight, no timeout occurs (notes/assumptions/3.md). -/
def Obligations.LabelsFail : Prop :=
  ∀ (n : BitVec 32) (code : Byte) (l : Label) (rest : List Label) (s : State), s.powered = true →
    let failed (c : FailCause) : State :=
      { s with
        printer :=
          { s.printer with
            inFlight := false, applyExpiry := none, idlePending := false
            lastFailed := some (l.number, l.bay) }
        labels := { s.labels with queue := rest }
        bundles :=
          { s.bundles with
            dispatch := s.bundles.dispatch.map (fun r =>
              if r.bay = l.bay then { r with label := .failed c } else r) }
        sort :=
          { s.sort with
            bays := s.sort.bays.set l.bay { s.sort.bays[l.bay] with state := some .blocked } } }
    let idle : List Notice :=
      if s.printer.idlePending = true then [.printerIdle (some rest.length)] else []
    (s.printer.inFlight = true → s.labels.queue = l :: rest → s.labels.requests = [] →
      (s.printer.ready = false ∨ s.printer.online = false ∨ rest = []) →
      (l.number = n.toNat →
        exec (.printerFault n code) s =
          .next (settle
            { failed (.printer code) with
              printer :=
                { (failed (.printer code)).printer.hunting with faults := sat16 s.printer.faults }
              link := linkAfter (.failedPrinter l.bay l.number code :: idle) s })) ∧
      (∀ t, s.printer.applyExpiry = some t → t ≤ s.now →
        exec .applyTimeout s =
          .next (settle
            { failed .timeout with
              printer := { (failed .timeout).printer with timeouts := sat16 s.printer.timeouts }
              link := linkAfter (.failedTimeout l.bay l.number :: idle) s }))) ∧
    ((s.printer.inFlight = false ∨ s.labels.queue = l :: rest ∧ l.number ≠ n.toNat) →
      exec (.printerFault n code) s =
        .next (settle
          { s with
            printer := { s.printer.hunting with stray := sat16 s.printer.stray }
            link := linkAfter [.printerStray 0x25 n] s })) ∧
    (∀ t, s.printer.applyExpiry = some t → s.now < t →
      exec .applyTimeout s = .next (settle s)) ∧
    (s.printer.inFlight = false → exec .applyTimeout s = .next (settle s))

/-- PRINTER OFFLINE makes the printer OFFLINE; with a label in flight idle pending is set, otherwise
IDLE is given at once, carrying no item (model's choice, notes/assumptions/29.md); already OFFLINE,
nothing changes; the reply carries the number in flight, or 0 (R173). PRINTER ONLINE makes it ONLINE,
clears idle pending and makes the sending test, so that a head label goes at once when the ready flag is
seen (R168, R173). REPRINT and RELEASE UNLABELLED refuse a bay number outside 1 to 12 RANGE, a bay that
is not GRADED NOT FOUND and one that is not BLOCKED STATE. REPRINT raises the record's reprint count, up
to 255, makes it REQUESTED with a request at the tail of the composition list, and the bay CLOSING
(R175); RELEASE UNLABELLED takes the record off the dispatch list with a RELEASED event carrying it
whole and opens the bay (R143, R176). Stated with a composition in flight, so that the request waits. -/
def Obligations.PrinterGoesOffAndOn : Prop :=
  (∀ (tag : Byte) (l : Label) (rest : List Label) (s : State), Listening s →
    (s.printer.online = false → s.printer.inFlight = false →
      exec (.printerOffline tag []) s =
        .next (settle (answered 0x24 tag (.accepted (u32 0)) s))) ∧
    (s.printer.online = false → s.printer.inFlight = true → s.labels.queue = l :: rest →
      exec (.printerOffline tag []) s =
        .next (settle (answered 0x24 tag (.accepted (u32 l.number)) s))) ∧
    (s.printer.online = true → s.printer.inFlight = false →
      exec (.printerOffline tag []) s =
        .next (settle
          { s with
            printer := { s.printer with online := false }
            link := linkReplied 0x24 tag (.accepted (u32 0)) [.printerIdle none] s })) ∧
    (s.printer.online = true → s.printer.inFlight = true → s.labels.queue = l :: rest →
      exec (.printerOffline tag []) s =
        .next (settle
          { s with
            printer := { s.printer with online := false, idlePending := true }
            link := linkReplied 0x24 tag (.accepted (u32 l.number)) [] s })) ∧
    ((s.printer.ready = false ∨ s.printer.inFlight = true ∨ s.labels.queue = []) →
      exec (.printerOnline tag []) s =
        .next (settle
          { s with
            printer := { s.printer with online := true, idlePending := false }
            link := linkReplied 0x25 tag (.accepted []) [] s })) ∧
    (s.printer.ready = true → s.printer.inFlight = false → s.labels.queue = l :: rest →
      exec (.printerOnline tag []) s =
        .next (settle
          { s with
            printer :=
              { s.printer with
                online := true, idlePending := false, ready := false, inFlight := true
                applyExpiry := some (s.now + 4000 * s.cfg.label.applyTimeout)
                sent := sat16 s.printer.sent
                tx := s.printer.tx ++ [fieldFrame 0x22 (u32 l.number ++ l.text)] }
            bundles :=
              { s.bundles with
                dispatch := s.bundles.dispatch.map (fun r =>
                  if r.bay = l.bay then { r with label := .sent } else r) }
            link := linkReplied 0x25 tag (.accepted []) [] s }))) ∧
  (∀ (tag n : Byte) (b : Bay) (key : Key) (r : DispatchRecord) (s : State), Listening s →
    let refuses (code : Refuse) (detail : Nat) : Prop :=
      exec (.reprint tag [n]) s =
          .next (settle (answered 0x26 tag (.refused code detail) s)) ∧
        exec (.releaseUnlabelled tag [n]) s =
          .next (settle (answered 0x27 tag (.refused code detail) s))
    ((n.toNat = 0 ∨ 12 < n.toNat) → refuses .range 1) ∧
    (n.toNat = b.val + 1 →
      ((∀ k, s.cfg.bays[b] ≠ .graded k) → refuses .notFound 0) ∧
      (s.cfg.bays[b] = .graded key → s.sort.bays[b].state ≠ some .blocked → refuses .state 0) ∧
      (s.cfg.bays[b] = .graded key → s.sort.bays[b].state = some .blocked →
        s.bundles.dispatch.find? (fun q => q.bay == b) = some r →
        (s.labels.composing ≠ none →
          exec (.reprint tag [n]) s =
            .next (settle
              { s with
                bundles :=
                  { s.bundles with
                    dispatch := s.bundles.dispatch.map (fun q =>
                      if q.bay = b then
                        { q with reprints := min (q.reprints + 1) 255, label := .requested }
                      else q) }
                labels := { s.labels with requests := s.labels.requests ++ [b] }
                sort :=
                  { s.sort with
                    bays := s.sort.bays.set b { s.sort.bays[b] with state := some .closing } }
                link :=
                  linkReplied 0x26 tag
                    (.accepted (u32 r.number ++ [BitVec.ofNat 8 (min (r.reprints + 1) 255)])) []
                    s })) ∧
        exec (.releaseUnlabelled tag [n]) s =
          .next (settle
            { s with
              bundles :=
                { s.bundles with
                  dispatch := s.bundles.dispatch.filter (fun q => q.bay != b) }
              sort :=
                { s.sort with
                  bays := s.sort.bays.set b { s.sort.bays[b] with state := some .opened } }
              link :=
                linkReplied 0x27 tag (.accepted (u32 r.number)) [.released b r] s }))))

/-! ### The Configuration Store -/

/-- CONFIG WRITE is judged in order (R190): a section number naming no section is refused RANGE naming
field 1; a body that is not the section's size LENGTH; while a save is in flight BUSY; a section
writable only in START and READY, in any other state, STATE; the first field out of a range that
refuses, RANGE with its index, the section number being field 1 (R195). The sizes are those of spec/13,
13.7. A body without a section number is refused LENGTH, the model's choice (notes/assumptions/27.md). A
refused write changes nothing but the link. -/
def Obligations.ConfigWritesAreJudged : Prop :=
  ∀ (tag number : Byte) (bytes : List Byte) (s : State), Listening s →
    let refused (code : Refuse) (detail : Nat) : Prop :=
      exec (.configWrite tag (number :: bytes)) s =
        .next (settle (answered 0x31 tag (.refused code detail) s))
    let k : Nat := number.toNat
    let size (n : Nat) : Prop :=
      (k = 1 ∧ n = 53) ∨ (k = 2 ∧ n = 5) ∨ (k = 3 ∧ n = 193) ∨ (4 ≤ k ∧ k ≤ 11 ∧ n = 32) ∨
        (k = 12 ∧ n = 4) ∨ (k = 13 ∧ n = 82) ∨ (k = 14 ∧ n = 36) ∨ (k = 15 ∧ n = 30) ∨
        (k = 16 ∧ n = 2) ∨ (k = 17 ∧ n = 3) ∨ (18 ≤ k ∧ k ≤ 25 ∧ n ≤ 192) ∨
        (26 ≤ k ∧ k ≤ 27 ∧ n = 144)
    let locked : Prop := k ≤ 12 ∨ k = 14
    let unlockable : Prop := s.sup.line ≠ .start ∧ s.sup.line ≠ .ready
    exec (.configWrite tag []) s = .next (settle (answered 0x31 tag (.refused .length 0) s)) ∧
    ((k = 0 ∨ 27 < k) → refused .range 1) ∧
    (1 ≤ k → k ≤ 27 →
      (¬ size bytes.length → refused .length 0) ∧
      (size bytes.length → s.store.saving ≠ none → refused .busy 0) ∧
      (size bytes.length → s.store.saving = none → locked → unlockable → refused .state 0) ∧
      (∀ sec i, size bytes.length → s.store.saving = none → ¬ (locked ∧ unlockable) →
        sectionOf k = some sec →
        firstRefused 2 (sec.forms bytes) (readFields (sec.forms bytes) bytes) = some i →
        refused .range i))

/-- An accepted LABEL write replaces the section whole, sets the edited flag and takes effect on the
label slot, the apply timeout and the substitute character (R147, R151, R168, R190). In RUN, HOLD,
STOPPING and FAILSAFE no check is made and its result is reported 0. In START and READY the consistency
check is made: a pass moves START to READY and a failure READY to START, with a STATE event, and the
reply carries the result and the state reached (R190, R191). A slot outside 1 to 8 and a timeout outside
2 to 60 s are refused RANGE, as fields 2 and 3. A SUPERVISION write sets the keep-alive period and guard
enable: the period OFF ends the keep-alive window, in RUN, HOLD and STOPPING a period after OFF starts a
LONG window, and another leaves the window in force as it is (R33); enabling the guard starts its window
of 250 ms where the monitor is active, and disabling it makes the monitor inactive and takes GUARD out
of the hold-source set, which can take HOLD to RUN (R26, R39). A period code above 5 and an enable above
1 are refused RANGE, as fields 2 and 3 (R190, R195). A BUNDLING write is accepted in every line state,
its target clamped to 100 to 9999, max strips to 1 to 250 and each capacity to 1 to 999, the reply
counting the fields clamped (R125, R190); the chute is judged again at its new capacity: at or below the
occupancy BIN is added with a FULL event, and RUN goes to HOLD (R124, R125). A close-at-run-end code
above 1 is refused RANGE as field 4. LAMP-G's phase and the order STATE before EFFECTIVE and FULL are
the model's (notes/assumptions/35.md and 37.md). -/
def Obligations.SectionWritesTakeEffect : Prop :=
  (∀ (tag slot timeout sub : Byte) (s : State), Listening s → s.store.saving = none →
    let out : Host.Outcome State Fault Refusal :=
      exec (.configWrite tag [17, slot, timeout, sub]) s
    let inRange : Prop :=
      1 ≤ slot.toNat ∧ slot.toNat ≤ 8 ∧ 2 ≤ timeout.toNat ∧ timeout.toNat ≤ 60
    let new : WorkingConfig :=
      { s.cfg with
        label :=
          { slot := Fin.ofNat 8 (slot.toNat - 1), applyTimeout := timeout.toNat
            substitute := sub } }
    let k : Nat := checkResult new
    let checked : ConfigStore :=
      { s.store with working := new, edited := true, lastCheck := k }
    let reply (line : LineState) : Answer :=
      .accepted [0, 0, BitVec.ofNat 8 k, BitVec.ofNat 8 line.code]
    let moved (line : LineState) : State :=
      { s with
        store := checked
        sup :=
          { s.sup with
            line := line, holds := s.sup.holds.filter (· != .guard), holdEffective := false
            window := .none, guard := .inactive, lampG := none }
        link := linkReplied 0x31 tag (reply line) [.state line] s }
    ((slot.toNat < 1 ∨ 8 < slot.toNat) →
      out = .next (settle (answered 0x31 tag (.refused .range 2) s))) ∧
    (1 ≤ slot.toNat → slot.toNat ≤ 8 → (timeout.toNat < 2 ∨ 60 < timeout.toNat) →
      out = .next (settle (answered 0x31 tag (.refused .range 3) s))) ∧
    (inRange → s.sup.line ≠ .start → s.sup.line ≠ .ready →
      out =
        .next (settle
          { s with
            store := { s.store with working := new, edited := true }
            link :=
              linkReplied 0x31 tag (.accepted [0, 0, 0, BitVec.ofNat 8 s.sup.line.code]) [] s })) ∧
    (inRange → (s.sup.line = .start ∧ k ≠ 0 ∨ s.sup.line = .ready ∧ k = 0) →
      out =
        .next (settle
          { s with
            store := checked
            link := linkReplied 0x31 tag (reply s.sup.line) [] s })) ∧
    (inRange → s.sup.line = .start → k = 0 → out = .next (settle (moved .ready))) ∧
    (inRange → s.sup.line = .ready → k ≠ 0 → out = .next (settle (moved .start)))) ∧
  (∀ (tag p g : Byte) (s : State), Listening s → s.store.saving = none →
    let out : Host.Outcome State Fault Refusal := exec (.configWrite tag [16, p, g]) s
    let new : WorkingConfig :=
      { s.cfg with supervision := { period := periodOf p.toNat, guardEnable := g == 1 } }
    let k : Nat := checkResult s.cfg
    let idle : Prop := s.sup.line = .start ∨ s.sup.line = .ready
    let others : List HoldSource := s.sup.holds.filter (· != .guard)
    let monitored : Supervisor :=
      { s.sup with
        holds := if g = 0 then others else s.sup.holds
        window :=
          if p = 5 then .none
          else if s.cfg.supervision.period = .off ∧ ¬ idle ∧ s.sup.line ≠ .failsafe then .long s.now
          else s.sup.window
        guard :=
          if g = 0 then .inactive
          else if s.cfg.supervision.guardEnable = true ∨ idle then s.sup.guard
          else .watching (s.now + 1000) }
    let released : Prop := g = 0 ∧ .guard ∈ s.sup.holds ∧ s.sup.line = .hold ∧ others = []
    let written (check : Nat) (sup : Supervisor) (reported : Nat) (events : List Notice) : State :=
      { s with
        store := { s.store with edited := true, working := new, lastCheck := check }
        sup := sup
        link :=
          linkReplied 0x31 tag
            (.accepted [0, 0, BitVec.ofNat 8 reported, BitVec.ofNat 8 sup.line.code]) events s }
    let still (line : LineState) : Supervisor :=
      { s.sup with
        line := line, holds := others, holdEffective := false, window := .none
        guard := .inactive, lampG := none }
    (5 < p.toNat → out = .next (settle (answered 0x31 tag (.refused .range 2) s))) ∧
    (p.toNat ≤ 5 → 1 < g.toNat →
      out = .next (settle (answered 0x31 tag (.refused .range 3) s))) ∧
    (p.toNat ≤ 5 → g.toNat ≤ 1 →
      (¬ idle → ¬ released →
        out = .next (settle (written s.store.lastCheck monitored 0 []))) ∧
      (released →
        out =
          .next (settle
            (written s.store.lastCheck
              { monitored with line := .run, holdEffective := false, lampG := none } 0
              [.state .run]))) ∧
      ((s.sup.line = .start ∧ k ≠ 0 ∨ s.sup.line = .ready ∧ k = 0) →
        out = .next (settle (written k monitored k []))) ∧
      (s.sup.line = .start → k = 0 →
        out = .next (settle (written 0 (still .ready) 0 [.state .ready]))) ∧
      (s.sup.line = .ready → k ≠ 0 →
        out = .next (settle (written k (still .start) k [.state .start]))))) ∧
  (∀ (tag : Byte) (bytes : List Byte) (s : State), Listening s → s.store.saving = none →
    bytes.length = 30 →
    let word (i : Nat) : Nat := readLe ((bytes.drop i).take 2)
    (1 < (bytes.getD 3 0).toNat →
      exec (.configWrite tag (15 :: bytes)) s =
        .next (settle (answered 0x31 tag (.refused .range 4) s))) ∧
    ((bytes.getD 3 0).toNat ≤ 1 →
      let within (lo hi x : Nat) : Nat := max lo (min x hi)
      let outside (lo hi x : Nat) : Nat := if x < lo ∨ hi < x then 1 else 0
      let new : WorkingConfig :=
        { s.cfg with
          bundling :=
            { target := within 100 9999 (word 0)
              maxStrips := within 1 250 (bytes.getD 2 0).toNat
              closeAtRunEnd := (bytes.getD 3 0).toNat == 1
              capacity := Vector.ofFn (fun b : Bay => within 1 999 (word (4 + 2 * b.val)))
              chuteCapacity := within 1 999 (word 28) } }
      let clamped : Nat :=
        outside 100 9999 (word 0) + outside 1 250 (bytes.getD 2 0).toNat +
          ((List.range 13).map (fun i => outside 1 999 (word (4 + 2 * i)))).sum
      let k : Nat := checkResult s.cfg
      let fills : Prop :=
        new.bundling.chuteCapacity ≤ s.sort.chuteOccupancy.toNat ∧ .bin ∉ s.sup.holds
      let written (check reported : Nat) (sup : Supervisor) (events : List Notice) :
          Host.Outcome State Fault Refusal :=
        .next (settle
          { s with
            store := { s.store with working := new, edited := true, lastCheck := check }
            sup := sup
            link :=
              linkReplied 0x31 tag
                (.accepted
                  [BitVec.ofNat 8 clamped, 0, BitVec.ofNat 8 reported,
                    BitVec.ofNat 8 sup.line.code]) events s })
      let out : Host.Outcome State Fault Refusal := exec (.configWrite tag (15 :: bytes)) s
      let held : Supervisor := { s.sup with holds := holdsWith .bin s }
      let full : Notice := .chuteFull s.sort.chuteOccupancy
      (s.sup.line ≠ .start → s.sup.line ≠ .ready →
        (¬ fills → out = written s.store.lastCheck 0 s.sup []) ∧
        (fills → s.sup.line ≠ .run → out = written s.store.lastCheck 0 held [full]) ∧
        (fills → s.sup.line = .run →
          out =
            written s.store.lastCheck 0
              { held with
                line := .hold, holdEffective := s.track.strips.isEmpty, lampG := dimmed s }
              (holdEvents s ++ [full]))) ∧
      ((s.sup.line = .start ∧ k ≠ 0 ∨ s.sup.line = .ready ∧ k = 0) →
        (¬ fills → out = written k k s.sup []) ∧
        (fills → out = written k k held [full])) ∧
      ∃ t, exec (.configWrite tag (15 :: bytes)) s = .next t ∧ t.store.edited = true ∧
        t.cfg.bundling.target = max 100 (min (word 0) 9999) ∧
        t.cfg.bundling.maxStrips = max 1 (min (bytes.getD 2 0).toNat 250) ∧
        t.cfg.bundling.closeAtRunEnd = ((bytes.getD 3 0).toNat == 1) ∧
        (∀ b : Bay, t.cfg.bundling.capacity[b] = max 1 (min (word (4 + 2 * b.val)) 999)) ∧
        t.cfg.bundling.chuteCapacity = max 1 (min (word 28) 999) ∧
        t.cfg =
          { s.cfg with bundling := t.cfg.bundling }))

/-- CONFIG WRITE of LINE, CLASSES, GRADES, a part of PRICES, or CUTTING, in START or READY with no save
in flight, judged field by field: the first field outside its range is refused RANGE with its index, the
section number being field 1 (R190, R195). LINE: counts per mm 1 to 16, the eye filters 1 to 20 mm,
check tolerance 5 to 100, settle distance 20 to 300 (R1, R3, R13, R93); CLASSES: minimum length 200 to
1200, step 50 to 600, count 1 to 16 (R59); GRADES: G 1 to 8, count limits 0 to 15 (R60); PRICES 0 to
9999 (R61); CUTTING: tongue allowance 0 to 20, head and tail trims 0 to 60, offset step 5 to 50 (R62).
An accepted write replaces the section, one part of PRICES alone, sets the edited flag, makes the
consistency check and replies (R190, R191); in the names each character outside the allowed set is
replaced and counted (R151). -/
def Obligations.GradingTablesAreWritten : Prop :=
  ∀ (tag : Byte) (bytes : List Byte) (g : Fin 8) (s : State), Listening s →
    s.store.saving = none → (s.sup.line = .start ∨ s.sup.line = .ready) →
    let byte (i : Nat) : Nat := (bytes.getD i 0).toNat
    let word (i : Nat) : Nat := byte i + 256 * byte (i + 1)
    let chars (i n : Nat) : List Byte := (bytes.drop i).take n
    let admitted (c : Byte) : Bool := s.cfg.allowed.getLsbD c.toNat
    let text (t : List Byte) : List Byte :=
      t.map (fun c => if admitted c then c else s.cfg.label.substitute)
    let strange (t : List Byte) : Nat := t.countP (fun c => !admitted c)
    let judged (number : Byte) (limits : List (Nat × Nat × Nat × Nat)) (new : WorkingConfig)
        (replaced : Nat) : Prop :=
      let out : Host.Outcome State Fault Refusal := exec (.configWrite tag (number :: bytes)) s
      let bad : Option (Nat × Nat × Nat × Nat) :=
        limits.find? (fun (_, lo, hi, x) => x < lo || hi < x)
      (bad = none →
        WriteAnswers out tag 0 replaced s { s with store := { s.store with working := new } }) ∧
      ∀ q, bad = some q → out = .next (settle (answered 0x31 tag (.refused .range q.1) s))
    (bytes.length = 53 →
      judged 1
        [(2, 1, 16, byte 0), (3, 1, 20, byte 1), (4, 1, 20, byte 2), (24, 5, 100, byte 41),
          (25, 20, 300, word 42)]
        { s.cfg with
          line :=
            { countsPerMm := byte 0, eyeInFilter := byte 1, eyeCkFilter := byte 2
              psc := word 3, pmo := word 5, pdp := word 7, pem := word 9, pck := word 11
              psa := word 13, pb := Vector.ofFn (fun b : Bay => word (15 + 2 * b.val))
              pend := word 39, checkTolerance := byte 41, settle := word 42, width := byte 44
              lineName := text (chars 45 8) } }
        (strange (chars 45 8))) ∧
    (bytes.length = 5 →
      judged 2 [(2, 200, 1200, word 0), (3, 50, 600, word 2), (4, 1, 16, byte 4)]
        { s.cfg with classes := { m := word 0, s := word 2, n := byte 4 } } 0) ∧
    (bytes.length = 193 →
      judged 3
        ((2, 1, 8, byte 0) ::
          (List.range 8).flatMap (fun i =>
            (List.range 6).map (fun k => (5 + 13 * i + 2 * k, 0, 15, byte (14 + 24 * i + 2 * k)))))
        { s.cfg with
          grades :=
            { count := byte 0
              grades :=
                Vector.ofFn (fun i : Fin 8 =>
                  { name := text (chars (1 + 24 * i.val) 12)
                    limits :=
                      Vector.ofFn (fun k : Fin 6 =>
                        { sevMax := byte (13 + 24 * i.val + 2 * k.val)
                          cntMax := byte (14 + 24 * i.val + 2 * k.val) }) }) } }
        (((List.range 8).map (fun i => strange (chars (1 + 24 * i) 12))).sum)) ∧
    (bytes.length = 32 →
      judged (BitVec.ofNat 8 (4 + g.val))
        ((List.range 16).map (fun c => (2 + c, 0, 9999, word (2 * c))))
        { s.cfg with
          prices := s.cfg.prices.set g (Vector.ofFn (fun c : Fin 16 => word (2 * c.val))) } 0) ∧
    (bytes.length = 4 →
      judged 12
        [(2, 0, 20, byte 0), (3, 0, 60, byte 1), (4, 0, 60, byte 2), (5, 5, 50, byte 3)]
        { s.cfg with cutting := { tg := byte 0, h0 := byte 1, t0 := byte 2, q := byte 3 } } 0)

/-- CONFIG WRITE of HEADS, a TEMPLATE slot or a half of TRANSLATE, in every line state, and of BAYS in
START and READY, with no save in flight. HEADS: the codes refuse outside 0 and 1; thresholds are clamped
to 0 to 1023, the confirm count to 1 to 4, the minimum speed to at most 120, and the reply counts the
fields clamped (R93, R94, R107). BAYS: a role code 0 to 3, for GRADED a grade 1 to 8 and a class 0 to 15
(R115), these two bytes being neither judged nor kept for another role, the model's choice
(notes/assumptions/31.md); a write that would change a bay in use is refused STATE, in use by the four
cases of R127; otherwise every changed bay takes its new entry, occupancy 0, OPEN with a fresh bundle of
its key when GRADED (R128). A TEMPLATE slot that the composition in flight uses is refused BUSY, else it
holds the 0 to 192 bytes written (R148). A half of TRANSLATE replaces its 128 entries and its 128 bits
of the allowed set (R150, R151; bit order of 13, 13.1). An accepted write sets the edited flag, makes
the check in START and READY, and replies (R190, R191). -/
def Obligations.HeadsBaysAndTextsAreWritten : Prop :=
  ∀ (tag : Byte) (bytes : List Byte) (slot : Fin 8) (s : State), Listening s →
    s.store.saving = none →
    let byte (i : Nat) : Nat := (bytes.getD i 0).toNat
    let word (i : Nat) : Nat := byte i + 256 * byte (i + 1)
    let out (number : Byte) : Host.Outcome State Fault Refusal :=
      exec (.configWrite tag (number :: bytes)) s
    let refused (number : Byte) (code : Refuse) (field : Nat) : Prop :=
      out number = .next (settle (answered 0x31 tag (.refused code field) s))
    let written (number : Byte) (clamped : Nat) (new : WorkingConfig) : Prop :=
      WriteAnswers (out number) tag clamped 0 s { s with store := { s.store with working := new } }
    let outside (limits : List (Nat × Nat × Nat × Nat)) : Option (Nat × Nat × Nat × Nat) :=
      limits.find? (fun (_, lo, hi, x) => x < lo || hi < x)
    (bytes.length = 82 →
      let bad : Option (Nat × Nat × Nat × Nat) :=
        outside ((List.range 6).flatMap (fun i =>
          (List.range 4).map (fun j => (2 + 9 * i + j, 0, 1, byte (13 * i + j)))))
      let one (c : Bool) : Nat := if c then 1 else 0
      let high (i : Nat) : Nat := one (1023 < word i)
      (∀ q, bad = some q → refused 13 .range q.1) ∧
      (bad = none →
        written 13
          (((List.range 6).map (fun i =>
              high (13 * i + 4) + high (13 * i + 6) + high (13 * i + 8) + high (13 * i + 10) +
                one (byte (13 * i + 12) < 1 || 4 < byte (13 * i + 12)))).sum + one (120 < byte 78))
          { s.cfg with
            heads :=
              { head :=
                  Vector.ofFn (fun n : Head =>
                    let p : Nat := 13 * n.val
                    { enabled := byte p == 1, diagnostics := byte (p + 1) == 1
                      masked := byte (p + 2) == 1
                      policy := if byte (p + 3) = 1 then .stop else .isolate
                      cutAbsent := min (word (p + 4)) 1023, overload := min (word (p + 6)) 1023
                      idleMin := min (word (p + 8)) 1023, idleMax := min (word (p + 10)) 1023
                      confirm := max 1 (min (byte (p + 12)) 4) })
                minSpeed := min (byte 78) 120, preWarning := byte 79, shutdown := byte 80
                hysteresis := byte 81 } })) ∧
    (bytes.length = 36 → (s.sup.line = .start ∨ s.sup.line = .ready) →
      let bad : Option (Nat × Nat × Nat × Nat) :=
        outside ((List.range 12).flatMap (fun i =>
          (2 + 3 * i, 0, 3, byte (3 * i)) ::
            (if byte (3 * i) = 0 then
              [(3 + 3 * i, 1, 8, byte (3 * i + 1)), (4 + 3 * i, 0, 15, byte (3 * i + 2))]
            else [])))
      let role (b : Bay) : Role :=
        let code : Nat := byte (3 * b.val)
        if code = 0 then .graded { grade := byte (3 * b.val + 1), cls := byte (3 * b.val + 2) }
        else if code = 1 then .regrade
        else if code = 2 then .mixed
        else .disabled
      let entry (b : Bay) : BayEntry := s.sort.bays[b]
      let inUse (b : Bay) : Prop :=
        0 < (entry b).inTransit ∨
          ((∃ key, s.cfg.bays[b] = .graded key) ∧
            ((entry b).state = some .closing ∨ (entry b).state = some .blocked ∨
              (entry b).state = some .filled ∨
              ((entry b).state = some .opened ∧
                ∃ o, s.bundles.bundles[b] = some o ∧ (0 < o.committed ∨ 0 < o.dropped)))) ∨
          ((s.cfg.bays[b] = .regrade ∨ s.cfg.bays[b] = .mixed) ∧ 0 < (entry b).occupancy.toNat)
      (∀ q, bad = some q → refused 14 .range q.1) ∧
      (bad = none → (∃ b, role b ≠ s.cfg.bays[b] ∧ inUse b) → refused 14 .state 0) ∧
      (bad = none → (∀ b, role b ≠ s.cfg.bays[b] → ¬ inUse b) →
        WriteAnswers (out 14) tag 0 0 s
          { s with
            store := { s.store with working := { s.cfg with bays := Vector.ofFn role } }
            sort :=
              { s.sort with
                bays :=
                  Vector.ofFn (fun b : Bay =>
                    if role b = s.cfg.bays[b] then entry b
                    else
                      { entry b with
                        state := if byte (3 * b.val) = 0 then some .opened else none
                        occupancy := 0 }) }
            bundles :=
              { s.bundles with
                bundles :=
                  Vector.ofFn (fun b : Bay =>
                    if role b = s.cfg.bays[b] then s.bundles.bundles[b]
                    else if byte (3 * b.val) = 0 then
                      some
                        (OpenBundle.fresh
                          { grade := byte (3 * b.val + 1), cls := byte (3 * b.val + 2) })
                    else none) } })) ∧
    (bytes.length ≤ 192 →
      let number : Byte := BitVec.ofNat 8 (18 + slot.val)
      ((∃ c, s.labels.composing = some c ∧ c.slot = slot) → refused number .busy 0) ∧
      ((∀ c, s.labels.composing = some c → c.slot ≠ slot) →
        written number 0 { s.cfg with templates := s.cfg.templates.set slot bytes })) ∧
    (bytes.length = 144 →
      let half : Nat := 2 ^ 128
      let bits : Nat := readLe (bytes.drop 128)
      written 26 0
          { s.cfg with
            translate := bytes.take 128 ++ s.cfg.translate.drop 128
            allowed := BitVec.ofNat 256 (bits + half * (s.cfg.allowed.toNat / half)) } ∧
        written 27 0
          { s.cfg with
            translate := s.cfg.translate.take 128 ++ bytes.take 128
            allowed := BitVec.ofNat 256 (s.cfg.allowed.toNat % half + half * bits) })

/-- A section read and written back changes nothing: for a working configuration with every field in its
range, the bytes CONFIG READ gives of any section fit the section's size, no field is refused or
clamped, no character is replaced, and the write of them gives the configuration as it was (R189, R190,
R195; the layout of spec/13, 13.7). The key bytes of a BAYS entry that has no key rest on the model's
choices of notes/assumptions/30.md and 31.md. -/
def Obligations.SectionsReadBack : Prop :=
  ∀ (cfg : WorkingConfig) (sec : Section), ConfigFits cfg →
    sec.fits (sec.bytes cfg) = true ∧
    firstRefused 2 (sec.forms (sec.bytes cfg))
        (readFields (sec.forms (sec.bytes cfg)) (sec.bytes cfg)) = none ∧
    countClamped (sec.forms (sec.bytes cfg))
        (readFields (sec.forms (sec.bytes cfg)) (sec.bytes cfg)) = 0 ∧
    replacedIn sec (sec.bytes cfg) cfg = 0 ∧
    writtenConfig sec (sec.bytes cfg) cfg = cfg

/-- SAVE is refused BUSY while SAVING; otherwise it is accepted in every line state, takes a copy of the
whole working configuration, clears the edited flag and becomes SAVING. The completion compares the
CRC-16 recomputed from the image read back with the copy's: on a match the image is the copy, the saves
counter rises and SAVED is given; otherwise the edited flag is set, the image is left mismatching, the
failures counter rises and SAVE FAILED is given (R192). With no save in flight no completion occurs
(notes/assumptions/4.md); that the row carries the recomputed CRC, and the copy's byte order, are the
model's choice (notes/assumptions/32.md). RESTART is judged in order (R194): while SAVING, BUSY; in a
line state other than START, READY and FAILSAFE, STATE; with a record in the track, STATE; with a bay
CLOSING or BLOCKED, STATE; otherwise it is accepted, a restart is pending and GATE-IN is closed until it
is made; one that is due already stays due (R183; the gap before it is notes/assumptions/38.md). -/
def Obligations.SavesAndRestartsAreJudged : Prop :=
  (∀ (tag : Byte) (crc : BitVec 16) (copy : WorkingConfig) (s : State),
    (Listening s → s.store.saving ≠ none →
      exec (.save tag []) s = .next (settle (answered 0x32 tag (.refused .busy 0) s))) ∧
    (Listening s → s.store.saving = none →
      exec (.save tag []) s =
        .next (settle
          { s with
            store := { s.store with saving := some s.cfg, edited := false }
            link := linkReplied 0x32 tag (.accepted []) [] s })) ∧
    (s.powered = true → s.store.saving = none →
      exec (.saveCompletion crc) s = .next (settle s)) ∧
    (s.powered = true → s.store.saving = some copy → crc = copy.imageCrc →
      exec (.saveCompletion crc) s =
        .next (settle
          { s with
            store :=
              { s.store with
                image := some copy, saving := none, saves := sat16 s.store.saves }
            link := linkAfter [.saved] s })) ∧
    (s.powered = true → s.store.saving = some copy → crc ≠ copy.imageCrc →
      exec (.saveCompletion crc) s =
        .next (settle
          { s with
            store :=
              { s.store with
                image := none, saving := none, edited := true
                failures := sat16 s.store.failures }
            link := linkAfter [.saveFailed] s }))) ∧
  (∀ (tag : Byte) (s : State), Listening s →
    let refused (code : Refuse) : Prop :=
      exec (.restart tag []) s = .next (settle (answered 0x33 tag (.refused code 0) s))
    let still : Prop := s.sup.line = .start ∨ s.sup.line = .ready ∨ s.sup.line = .failsafe
    let waits : Prop :=
      ∃ b : Bay, s.sort.bays[b].state = some .closing ∨ s.sort.bays[b].state = some .blocked
    (s.store.saving ≠ none → refused .busy) ∧
    (s.store.saving = none → (¬ still ∨ s.track.strips ≠ [] ∨ waits) → refused .state) ∧
    (s.store.saving = none → still → s.track.strips = [] → ¬ waits →
      exec (.restart tag []) s =
          .next (settle
            { s with
              store :=
                { s.store with
                  restart := if s.store.restart = .due then .due else .pending }
              link := linkReplied 0x33 tag (.accepted []) [] s })) ∧
    (s.store.restart ≠ .none → s.gateInOpen = false))

/-! ### Restarts and resets -/

/-- The restart, made when the RESTART reply has gone, runs steps 3 to 7 of R193 and keeps what R194
lists: the fail-safe mode, the baud rate, the masks, the next bundle number and the texts, the bin
occupancies of bays whose reloaded role is a bin, the chute's occupancy and the save counters; the reset
cause is RESTART, the edited flag clear, the track empty and the line in READY or START by the check.
Nothing of it happens before it is due. A chute that stands at or above its capacity adds BIN again
(R131). Hardware reset (R193) starts the part from the stored image, or from the factory defaults with
alarm CONFIG when its CRC does not match, an image being left mismatching by a reset while SAVING
(R192): the cause and the straps are recorded, every block takes its reset state with its settings from
the working configuration, and the check leaves the line in READY or START. The inputs keep their
levels, GUARD's too, and when GUARD went high is forgotten: model's choices (notes/assumptions/6.md and
34.md). The completion of a conversion or evaluation the reset abandoned is discarded (R81, R114; the
serials are notes/assumptions/21.md). RESET driven low without supply does nothing, and a loss of power
ends a save without its completion (R192; the model's supply flag is notes/assumptions/33.md). -/
def Obligations.ResetsStartThePart : Prop :=
  (∀ s : State, s.powered = true →
    (s.store.restart ≠ .due → exec .restartExecute s = .next (settle s)) ∧
    (s.store.restart = .due →
      let cfg : WorkingConfig := s.store.image.getD factoryDefaults
      ∃ t, exec .restartExecute s = .next t ∧ t.now = s.now ∧ t.powered = true ∧
        t.store =
          { working := cfg, image := s.store.image, saving := none, edited := false
            lastCheck := checkResult cfg, saves := s.store.saves, failures := s.store.failures
            restart := .none } ∧
        t.sup.line = (if checkResult cfg = 0 then .ready else .start) ∧
        t.sup.failSafe = s.sup.failSafe ∧ t.sup.resetCause = .restart ∧
        t.sup.stopPending = false ∧ t.sup.window = .none ∧ t.sup.guard = .inactive ∧
        t.sup.alarms = (if s.store.image = none then [.config] else []) ∧
        t.sup.holds =
          (if cfg.bundling.chuteCapacity ≤ s.sort.chuteOccupancy.toNat then [.bin] else []) ∧
        t.link.baud = s.link.baud ∧ t.link.masks = s.link.masks ∧ t.link.errors = s.link.errors ∧
        t.link.noise = s.link.noise ∧ t.link.busyRefusals = s.link.busyRefusals ∧
        t.link.overruns = s.link.overruns ∧ t.link.replies = [] ∧
        t.bundles.nextNumber = s.bundles.nextNumber ∧ t.bundles.lot = s.bundles.lot ∧
        t.bundles.date = s.bundles.date ∧ t.bundles.dispatch = [] ∧
        t.sort.chuteOccupancy = s.sort.chuteOccupancy ∧
        (∀ b : Bay,
          t.sort.bays[b].occupancy =
              (if (cfg.bays[b]).isBin = true then s.sort.bays[b].occupancy else 0) ∧
            t.sort.bays[b].state = (if (cfg.bays[b]).isGraded = true then some .opened else none) ∧
            t.bundles.bundles[b] = (cfg.bays[b]).bundle) ∧
        t.track.strips = [] ∧ t.track.travel = 0 ∧ t.track.nextNumber = 1 ∧ t.track.stats = {} ∧
        t.track.countsInForce = cfg.line.countsPerMm ∧ t.scanner = .reset ∧
        t.grading = { GradingEngine.reset with nextEvaluation := s.grading.nextEvaluation } ∧
        t.saw = .reset ∧ t.labels = .reset ∧ t.printer = .reset ∧ t.heads.check = .idle ∧
        t.heads.conversion =
          some
            { serial := s.heads.nextConversion, request := .temperature, settings := cfg.heads } ∧
        t.heads.nextConversion = s.heads.nextConversion + 1 ∧
        t.pending = s.pending)) ∧
  (∀ (source : ResetSource) (baud : Baud) (fsel : FailSafeMode) (s : State),
    (s.powered = false → exec (.hardwareReset .pin baud fsel) s = .next s) ∧
    (s.powered = true ∨ source = .power →
      let image : Option WorkingConfig :=
        if s.store.saving = none then s.store.image else none
      let cfg : WorkingConfig := image.getD factoryDefaults
      ∃ t, exec (.hardwareReset source baud fsel) s = .next t ∧ t.powered = true ∧ t.now = s.now ∧
        t.store =
          { working := cfg, image := image, saving := none, edited := false
            lastCheck := checkResult cfg, saves := 0, failures := 0, restart := .none } ∧
        t.sup =
          { line := if checkResult cfg = 0 then .ready else .start
            holds := [], holdEffective := false, stopPending := false, failSafe := fsel
            resetCause := match source with
              | .power => .power
              | .pin => .pin
            alarms := if image = none then [.config] else []
            window := .none, guard := .inactive, guardHigh := s.sup.guardHigh
            guardHighSince := none, lampA := t.sup.lampA, lampG := none } ∧
        t.link.baud = baud ∧ t.link.masks = 0 ∧ t.link.replies = [] ∧ t.link.errors = 0 ∧
        t.link.rx.stage = .hunt ∧
        t.link.notices =
          [{ source := .lineState, events := 1, repeats := 1
             latest := .state (if checkResult cfg = 0 then .ready else .start) }] ∧
        t.link.tx =
          .notice
            (NoticeEntry.frame
              { source := .configuration, repeats := 1
                events := if image = none then 2 else 1
                latest := if image = none then .defaults else .loaded }) ∧
        t.track =
          { TrackUnit.reset with
            encA := s.track.encA, encB := s.track.encB, countsInForce := cfg.line.countsPerMm
            intervalEnd := s.now + 400
            eyeIn :=
              { input := s.track.eyeIn.input, fromReset := true, accepted := false
                pending := none }
            eyeCk :=
              { input := s.track.eyeCk.input, fromReset := true, accepted := false
                pending := none } } ∧
        t.scanner = .reset ∧
        t.grading = { GradingEngine.reset with nextEvaluation := s.grading.nextEvaluation } ∧
        t.saw = .reset ∧ t.labels = .reset ∧ t.printer = .reset ∧
        t.heads =
          { HeadMonitor.reset with
            conversion :=
              some
                { serial := s.heads.nextConversion, request := .temperature, settings := cfg.heads }
            nextConversion := s.heads.nextConversion + 1
            tempSince := s.now, nextTemp := s.now + 2000 } ∧
        t.sort.chuteOccupancy = 0 ∧ t.bundles.nextNumber = 1 ∧ t.bundles.lot = spaces 12 ∧
        t.bundles.date = spaces 10 ∧ t.bundles.dispatch = [] ∧
        (∀ b : Bay, t.sort.bays[b].occupancy = 0 ∧ t.sort.bays[b].inTransit = 0 ∧
          t.sort.bays[b].state = (if (cfg.bays[b]).isGraded = true then some .opened else none) ∧
          t.bundles.bundles[b] = (cfg.bays[b]).bundle) ∧
        (SerialsFresh s →
          (∀ cv value, s.heads.conversion = some cv →
            exec (.conversionCompletion { conversion := cv.serial, value := value }) t =
              .next (settle t)) ∧
          ∀ i, s.grading.inFlight = some i →
            exec (.evaluationCompletion i.serial) t = .next (settle t))) ∧
    exec .lossOfPower s =
      .next
        { s with
          powered := false
          store :=
            { s.store with
              saving := none
              image := if s.store.saving = none then s.store.image else none } })

/-! ### What every step keeps -/

/-- Every step keeps the line state's promises, from any state that has them: RUN holds an empty hold-
source set and HOLD a non-empty one (R23, R25, R28), the keep-alive monitor has no window outside RUN,
HOLD and STOPPING (R33), the guard monitor is inactive in START and READY (R39), and hold effective
holds exactly while the line is in HOLD with the track empty (R27). -/
def Obligations.StepsKeepTheLineStatePromises : Prop :=
  ∀ s t : State, LineInv s → step s = .next t → LineInv t

/-- Every step keeps the strip track's account and its numbers, from any state that has them: admitted
plus phantom equals the records in the track plus bundled, regrade, mixed, reject and lost, modulo 2^32
(R20); the track holds at most 64 records, no two with one strip number (R10); and the next number is
never 0 (R5). -/
def Obligations.StepsKeepTheTrackAccount : Prop :=
  ∀ s t : State, TrackAccounts s → TrackNumbers s → step s = .next t →
    TrackAccounts t ∧ TrackNumbers t

/-- Every step keeps the Host Link's bounds, from any state within them: at most one request in hand, at
most 4 BUSY refusals waiting (R181) and at most one notice entry for each source (R185). -/
def Obligations.StepsKeepTheLinkBounds : Prop :=
  ∀ s t : State, LinkInv s → step s = .next t → LinkInv t

/-- Every step keeps the label queue's bounds, from any state within them: at most 4 labels, room for
one more while a composition is in hand (R153, R163), a label in flight standing at the head of the
queue, and the apply timer running exactly while one is in flight (R167, R168, R170 to R172). -/
def Obligations.StepsKeepTheLabelBounds : Prop :=
  ∀ s t : State, LabelInv s → step s = .next t → LabelInv t

/-- Every step keeps the model's serials fresh, from any state in which they are: the conversion and the
evaluation in flight carry serials below the next ones to be given, so that no completion of work that a
reset or the passing of Pdp abandoned is ever taken for that of later work (R77, R81, R114; the serials
are notes/assumptions/21.md); and the records of the track carry serials of their own, below the next.
-/
def Obligations.StepsKeepSerialsFresh : Prop :=
  ∀ s t : State, SerialsFresh s → step s = .next t → SerialsFresh t

/-- The state right after reset has every promise that steps keep, and its values are those the spec
states for reset: the line in START with alarm CONFIG after a DEFAULTS start-up (R193), the track empty
(R22), numbers from 1 (R5, R146), the printer ONLINE (R178). That the stored image mismatches there is
the model's choice (notes/assumptions/5.md). -/
def Obligations.ResetMeetsEveryPromise : Prop :=
  LineInv State.reset ∧ TrackAccounts State.reset ∧ TrackNumbers State.reset ∧
    LinkInv State.reset ∧ LabelInv State.reset ∧ SerialsFresh State.reset ∧
    State.reset.sup.line = .start ∧
    State.reset.sup.alarms = [.config] ∧ State.reset.track.strips = [] ∧
    State.reset.track.nextNumber = 1 ∧ State.reset.bundles.nextNumber = 1 ∧
    State.reset.printer.online = true ∧ State.reset.store.lastCheck = 1 ∧
    State.reset.cfg = factoryDefaults
end

