-- ==== Sys2Proof/Laws/State.lean ====
section
/-! SUPPORT. Laws/State.lean: one lemma for each field of State under each named update, true by rfl, so
that no proof unfolds a record update. -/

namespace Sys2Proof.Machine

/-! ### modifySerial -/

@[simp] theorem modifySerial_now (id : Nat) (f : Strip → Strip) (s : State) :
    (modifySerial id f s).now = s.now := rfl
@[simp] theorem modifySerial_powered (id : Nat) (f : Strip → Strip) (s : State) :
    (modifySerial id f s).powered = s.powered := rfl
@[simp] theorem modifySerial_track (id : Nat) (f : Strip → Strip) (s : State) :
    (modifySerial id f s).track =
    { s.track with strips := s.track.strips.map (fun r => if r.serial == id then f r else r) } := rfl
@[simp] theorem modifySerial_sup (id : Nat) (f : Strip → Strip) (s : State) :
    (modifySerial id f s).sup = s.sup := rfl
@[simp] theorem modifySerial_scanner (id : Nat) (f : Strip → Strip) (s : State) :
    (modifySerial id f s).scanner = s.scanner := rfl
@[simp] theorem modifySerial_grading (id : Nat) (f : Strip → Strip) (s : State) :
    (modifySerial id f s).grading = s.grading := rfl
@[simp] theorem modifySerial_saw (id : Nat) (f : Strip → Strip) (s : State) :
    (modifySerial id f s).saw = s.saw := rfl
@[simp] theorem modifySerial_heads (id : Nat) (f : Strip → Strip) (s : State) :
    (modifySerial id f s).heads = s.heads := rfl
@[simp] theorem modifySerial_sort (id : Nat) (f : Strip → Strip) (s : State) :
    (modifySerial id f s).sort = s.sort := rfl
@[simp] theorem modifySerial_bundles (id : Nat) (f : Strip → Strip) (s : State) :
    (modifySerial id f s).bundles = s.bundles := rfl
@[simp] theorem modifySerial_labels (id : Nat) (f : Strip → Strip) (s : State) :
    (modifySerial id f s).labels = s.labels := rfl
@[simp] theorem modifySerial_printer (id : Nat) (f : Strip → Strip) (s : State) :
    (modifySerial id f s).printer = s.printer := rfl
@[simp] theorem modifySerial_link (id : Nat) (f : Strip → Strip) (s : State) :
    (modifySerial id f s).link = s.link := rfl
@[simp] theorem modifySerial_store (id : Nat) (f : Strip → Strip) (s : State) :
    (modifySerial id f s).store = s.store := rfl
@[simp] theorem modifySerial_races (id : Nat) (f : Strip → Strip) (s : State) :
    (modifySerial id f s).races = s.races := rfl
@[simp] theorem modifySerial_pending (id : Nat) (f : Strip → Strip) (s : State) :
    (modifySerial id f s).pending = s.pending := rfl

/-! ### modifyNumber -/

@[simp] theorem modifyNumber_now (n : StripNo) (f : Strip → Strip) (s : State) :
    (modifyNumber n f s).now = s.now := rfl
@[simp] theorem modifyNumber_powered (n : StripNo) (f : Strip → Strip) (s : State) :
    (modifyNumber n f s).powered = s.powered := rfl
@[simp] theorem modifyNumber_track (n : StripNo) (f : Strip → Strip) (s : State) :
    (modifyNumber n f s).track =
    { s.track with
      strips := s.track.strips.map (fun r => if r.number == n && n != 0 then f r else r) } := rfl
@[simp] theorem modifyNumber_sup (n : StripNo) (f : Strip → Strip) (s : State) :
    (modifyNumber n f s).sup = s.sup := rfl
@[simp] theorem modifyNumber_scanner (n : StripNo) (f : Strip → Strip) (s : State) :
    (modifyNumber n f s).scanner = s.scanner := rfl
@[simp] theorem modifyNumber_grading (n : StripNo) (f : Strip → Strip) (s : State) :
    (modifyNumber n f s).grading = s.grading := rfl
@[simp] theorem modifyNumber_saw (n : StripNo) (f : Strip → Strip) (s : State) :
    (modifyNumber n f s).saw = s.saw := rfl
@[simp] theorem modifyNumber_heads (n : StripNo) (f : Strip → Strip) (s : State) :
    (modifyNumber n f s).heads = s.heads := rfl
@[simp] theorem modifyNumber_sort (n : StripNo) (f : Strip → Strip) (s : State) :
    (modifyNumber n f s).sort = s.sort := rfl
@[simp] theorem modifyNumber_bundles (n : StripNo) (f : Strip → Strip) (s : State) :
    (modifyNumber n f s).bundles = s.bundles := rfl
@[simp] theorem modifyNumber_labels (n : StripNo) (f : Strip → Strip) (s : State) :
    (modifyNumber n f s).labels = s.labels := rfl
@[simp] theorem modifyNumber_printer (n : StripNo) (f : Strip → Strip) (s : State) :
    (modifyNumber n f s).printer = s.printer := rfl
@[simp] theorem modifyNumber_link (n : StripNo) (f : Strip → Strip) (s : State) :
    (modifyNumber n f s).link = s.link := rfl
@[simp] theorem modifyNumber_store (n : StripNo) (f : Strip → Strip) (s : State) :
    (modifyNumber n f s).store = s.store := rfl
@[simp] theorem modifyNumber_races (n : StripNo) (f : Strip → Strip) (s : State) :
    (modifyNumber n f s).races = s.races := rfl
@[simp] theorem modifyNumber_pending (n : StripNo) (f : Strip → Strip) (s : State) :
    (modifyNumber n f s).pending = s.pending := rfl

/-! ### modifyRecord -/

@[simp] theorem modifyRecord_now (b : Bay) (f : DispatchRecord → DispatchRecord) (s : State) :
    (modifyRecord b f s).now = s.now := rfl
@[simp] theorem modifyRecord_powered (b : Bay) (f : DispatchRecord → DispatchRecord) (s : State) :
    (modifyRecord b f s).powered = s.powered := rfl
@[simp] theorem modifyRecord_track (b : Bay) (f : DispatchRecord → DispatchRecord) (s : State) :
    (modifyRecord b f s).track = s.track := rfl
@[simp] theorem modifyRecord_sup (b : Bay) (f : DispatchRecord → DispatchRecord) (s : State) :
    (modifyRecord b f s).sup = s.sup := rfl
@[simp] theorem modifyRecord_scanner (b : Bay) (f : DispatchRecord → DispatchRecord) (s : State) :
    (modifyRecord b f s).scanner = s.scanner := rfl
@[simp] theorem modifyRecord_grading (b : Bay) (f : DispatchRecord → DispatchRecord) (s : State) :
    (modifyRecord b f s).grading = s.grading := rfl
@[simp] theorem modifyRecord_saw (b : Bay) (f : DispatchRecord → DispatchRecord) (s : State) :
    (modifyRecord b f s).saw = s.saw := rfl
@[simp] theorem modifyRecord_heads (b : Bay) (f : DispatchRecord → DispatchRecord) (s : State) :
    (modifyRecord b f s).heads = s.heads := rfl
@[simp] theorem modifyRecord_sort (b : Bay) (f : DispatchRecord → DispatchRecord) (s : State) :
    (modifyRecord b f s).sort = s.sort := rfl
@[simp] theorem modifyRecord_bundles (b : Bay) (f : DispatchRecord → DispatchRecord) (s : State) :
    (modifyRecord b f s).bundles =
    { s.bundles with dispatch := s.bundles.dispatch.map (fun r => if r.bay == b then f r else r) } := rfl
@[simp] theorem modifyRecord_labels (b : Bay) (f : DispatchRecord → DispatchRecord) (s : State) :
    (modifyRecord b f s).labels = s.labels := rfl
@[simp] theorem modifyRecord_printer (b : Bay) (f : DispatchRecord → DispatchRecord) (s : State) :
    (modifyRecord b f s).printer = s.printer := rfl
@[simp] theorem modifyRecord_link (b : Bay) (f : DispatchRecord → DispatchRecord) (s : State) :
    (modifyRecord b f s).link = s.link := rfl
@[simp] theorem modifyRecord_store (b : Bay) (f : DispatchRecord → DispatchRecord) (s : State) :
    (modifyRecord b f s).store = s.store := rfl
@[simp] theorem modifyRecord_races (b : Bay) (f : DispatchRecord → DispatchRecord) (s : State) :
    (modifyRecord b f s).races = s.races := rfl
@[simp] theorem modifyRecord_pending (b : Bay) (f : DispatchRecord → DispatchRecord) (s : State) :
    (modifyRecord b f s).pending = s.pending := rfl

/-! ### setLabel -/

@[simp] theorem setLabel_now (b : Bay) (l : LabelState) (s : State) : (setLabel b l s).now = s.now := rfl
@[simp] theorem setLabel_powered (b : Bay) (l : LabelState) (s : State) :
    (setLabel b l s).powered = s.powered := rfl
@[simp] theorem setLabel_track (b : Bay) (l : LabelState) (s : State) :
    (setLabel b l s).track = s.track := rfl
@[simp] theorem setLabel_sup (b : Bay) (l : LabelState) (s : State) : (setLabel b l s).sup = s.sup := rfl
@[simp] theorem setLabel_scanner (b : Bay) (l : LabelState) (s : State) :
    (setLabel b l s).scanner = s.scanner := rfl
@[simp] theorem setLabel_grading (b : Bay) (l : LabelState) (s : State) :
    (setLabel b l s).grading = s.grading := rfl
@[simp] theorem setLabel_saw (b : Bay) (l : LabelState) (s : State) : (setLabel b l s).saw = s.saw := rfl
@[simp] theorem setLabel_heads (b : Bay) (l : LabelState) (s : State) :
    (setLabel b l s).heads = s.heads := rfl
@[simp] theorem setLabel_sort (b : Bay) (l : LabelState) (s : State) : (setLabel b l s).sort = s.sort := rfl
@[simp] theorem setLabel_bundles (b : Bay) (l : LabelState) (s : State) :
    (setLabel b l s).bundles =
    { s.bundles with
      dispatch := s.bundles.dispatch.map (fun r => if r.bay == b then { r with label := l } else r) } := rfl
@[simp] theorem setLabel_labels (b : Bay) (l : LabelState) (s : State) :
    (setLabel b l s).labels = s.labels := rfl
@[simp] theorem setLabel_printer (b : Bay) (l : LabelState) (s : State) :
    (setLabel b l s).printer = s.printer := rfl
@[simp] theorem setLabel_link (b : Bay) (l : LabelState) (s : State) : (setLabel b l s).link = s.link := rfl
@[simp] theorem setLabel_store (b : Bay) (l : LabelState) (s : State) :
    (setLabel b l s).store = s.store := rfl
@[simp] theorem setLabel_races (b : Bay) (l : LabelState) (s : State) :
    (setLabel b l s).races = s.races := rfl
@[simp] theorem setLabel_pending (b : Bay) (l : LabelState) (s : State) :
    (setLabel b l s).pending = s.pending := rfl

/-! ### modifyBay -/

@[simp] theorem modifyBay_now (b : Bay) (f : BayEntry → BayEntry) (s : State) :
    (modifyBay b f s).now = s.now := rfl
@[simp] theorem modifyBay_powered (b : Bay) (f : BayEntry → BayEntry) (s : State) :
    (modifyBay b f s).powered = s.powered := rfl
@[simp] theorem modifyBay_track (b : Bay) (f : BayEntry → BayEntry) (s : State) :
    (modifyBay b f s).track = s.track := rfl
@[simp] theorem modifyBay_sup (b : Bay) (f : BayEntry → BayEntry) (s : State) :
    (modifyBay b f s).sup = s.sup := rfl
@[simp] theorem modifyBay_scanner (b : Bay) (f : BayEntry → BayEntry) (s : State) :
    (modifyBay b f s).scanner = s.scanner := rfl
@[simp] theorem modifyBay_grading (b : Bay) (f : BayEntry → BayEntry) (s : State) :
    (modifyBay b f s).grading = s.grading := rfl
@[simp] theorem modifyBay_saw (b : Bay) (f : BayEntry → BayEntry) (s : State) :
    (modifyBay b f s).saw = s.saw := rfl
@[simp] theorem modifyBay_heads (b : Bay) (f : BayEntry → BayEntry) (s : State) :
    (modifyBay b f s).heads = s.heads := rfl
@[simp] theorem modifyBay_sort (b : Bay) (f : BayEntry → BayEntry) (s : State) :
    (modifyBay b f s).sort =
    { s.sort with bays := s.sort.bays.set b (f s.sort.bays[b]) } := rfl
@[simp] theorem modifyBay_bundles (b : Bay) (f : BayEntry → BayEntry) (s : State) :
    (modifyBay b f s).bundles = s.bundles := rfl
@[simp] theorem modifyBay_labels (b : Bay) (f : BayEntry → BayEntry) (s : State) :
    (modifyBay b f s).labels = s.labels := rfl
@[simp] theorem modifyBay_printer (b : Bay) (f : BayEntry → BayEntry) (s : State) :
    (modifyBay b f s).printer = s.printer := rfl
@[simp] theorem modifyBay_link (b : Bay) (f : BayEntry → BayEntry) (s : State) :
    (modifyBay b f s).link = s.link := rfl
@[simp] theorem modifyBay_store (b : Bay) (f : BayEntry → BayEntry) (s : State) :
    (modifyBay b f s).store = s.store := rfl
@[simp] theorem modifyBay_races (b : Bay) (f : BayEntry → BayEntry) (s : State) :
    (modifyBay b f s).races = s.races := rfl
@[simp] theorem modifyBay_pending (b : Bay) (f : BayEntry → BayEntry) (s : State) :
    (modifyBay b f s).pending = s.pending := rfl

/-! ### setBay -/

@[simp] theorem setBay_now (b : Bay) (st : BayState) (s : State) : (setBay b st s).now = s.now := rfl
@[simp] theorem setBay_powered (b : Bay) (st : BayState) (s : State) :
    (setBay b st s).powered = s.powered := rfl
@[simp] theorem setBay_track (b : Bay) (st : BayState) (s : State) : (setBay b st s).track = s.track := rfl
@[simp] theorem setBay_sup (b : Bay) (st : BayState) (s : State) : (setBay b st s).sup = s.sup := rfl
@[simp] theorem setBay_scanner (b : Bay) (st : BayState) (s : State) :
    (setBay b st s).scanner = s.scanner := rfl
@[simp] theorem setBay_grading (b : Bay) (st : BayState) (s : State) :
    (setBay b st s).grading = s.grading := rfl
@[simp] theorem setBay_saw (b : Bay) (st : BayState) (s : State) : (setBay b st s).saw = s.saw := rfl
@[simp] theorem setBay_heads (b : Bay) (st : BayState) (s : State) : (setBay b st s).heads = s.heads := rfl
@[simp] theorem setBay_sort (b : Bay) (st : BayState) (s : State) :
    (setBay b st s).sort =
    { s.sort with bays := s.sort.bays.set b { s.sort.bays[b] with state := some st } } := rfl
@[simp] theorem setBay_bundles (b : Bay) (st : BayState) (s : State) :
    (setBay b st s).bundles = s.bundles := rfl
@[simp] theorem setBay_labels (b : Bay) (st : BayState) (s : State) :
    (setBay b st s).labels = s.labels := rfl
@[simp] theorem setBay_printer (b : Bay) (st : BayState) (s : State) :
    (setBay b st s).printer = s.printer := rfl
@[simp] theorem setBay_link (b : Bay) (st : BayState) (s : State) : (setBay b st s).link = s.link := rfl
@[simp] theorem setBay_store (b : Bay) (st : BayState) (s : State) : (setBay b st s).store = s.store := rfl
@[simp] theorem setBay_races (b : Bay) (st : BayState) (s : State) : (setBay b st s).races = s.races := rfl
@[simp] theorem setBay_pending (b : Bay) (st : BayState) (s : State) :
    (setBay b st s).pending = s.pending := rfl

/-! ### modifyHead -/

@[simp] theorem modifyHead_now (n : Head) (f : HeadRecord → HeadRecord) (s : State) :
    (modifyHead n f s).now = s.now := rfl
@[simp] theorem modifyHead_powered (n : Head) (f : HeadRecord → HeadRecord) (s : State) :
    (modifyHead n f s).powered = s.powered := rfl
@[simp] theorem modifyHead_track (n : Head) (f : HeadRecord → HeadRecord) (s : State) :
    (modifyHead n f s).track = s.track := rfl
@[simp] theorem modifyHead_sup (n : Head) (f : HeadRecord → HeadRecord) (s : State) :
    (modifyHead n f s).sup = s.sup := rfl
@[simp] theorem modifyHead_scanner (n : Head) (f : HeadRecord → HeadRecord) (s : State) :
    (modifyHead n f s).scanner = s.scanner := rfl
@[simp] theorem modifyHead_grading (n : Head) (f : HeadRecord → HeadRecord) (s : State) :
    (modifyHead n f s).grading = s.grading := rfl
@[simp] theorem modifyHead_saw (n : Head) (f : HeadRecord → HeadRecord) (s : State) :
    (modifyHead n f s).saw = s.saw := rfl
@[simp] theorem modifyHead_heads (n : Head) (f : HeadRecord → HeadRecord) (s : State) :
    (modifyHead n f s).heads =
    { s.heads with records := s.heads.records.set n (f s.heads.records[n]) } := rfl
@[simp] theorem modifyHead_sort (n : Head) (f : HeadRecord → HeadRecord) (s : State) :
    (modifyHead n f s).sort = s.sort := rfl
@[simp] theorem modifyHead_bundles (n : Head) (f : HeadRecord → HeadRecord) (s : State) :
    (modifyHead n f s).bundles = s.bundles := rfl
@[simp] theorem modifyHead_labels (n : Head) (f : HeadRecord → HeadRecord) (s : State) :
    (modifyHead n f s).labels = s.labels := rfl
@[simp] theorem modifyHead_printer (n : Head) (f : HeadRecord → HeadRecord) (s : State) :
    (modifyHead n f s).printer = s.printer := rfl
@[simp] theorem modifyHead_link (n : Head) (f : HeadRecord → HeadRecord) (s : State) :
    (modifyHead n f s).link = s.link := rfl
@[simp] theorem modifyHead_store (n : Head) (f : HeadRecord → HeadRecord) (s : State) :
    (modifyHead n f s).store = s.store := rfl
@[simp] theorem modifyHead_races (n : Head) (f : HeadRecord → HeadRecord) (s : State) :
    (modifyHead n f s).races = s.races := rfl
@[simp] theorem modifyHead_pending (n : Head) (f : HeadRecord → HeadRecord) (s : State) :
    (modifyHead n f s).pending = s.pending := rfl

/-! ### setBundle -/

@[simp] theorem setBundle_now (b : Bay) (o : Option OpenBundle) (s : State) :
    (setBundle b o s).now = s.now := rfl
@[simp] theorem setBundle_powered (b : Bay) (o : Option OpenBundle) (s : State) :
    (setBundle b o s).powered = s.powered := rfl
@[simp] theorem setBundle_track (b : Bay) (o : Option OpenBundle) (s : State) :
    (setBundle b o s).track = s.track := rfl
@[simp] theorem setBundle_sup (b : Bay) (o : Option OpenBundle) (s : State) :
    (setBundle b o s).sup = s.sup := rfl
@[simp] theorem setBundle_scanner (b : Bay) (o : Option OpenBundle) (s : State) :
    (setBundle b o s).scanner = s.scanner := rfl
@[simp] theorem setBundle_grading (b : Bay) (o : Option OpenBundle) (s : State) :
    (setBundle b o s).grading = s.grading := rfl
@[simp] theorem setBundle_saw (b : Bay) (o : Option OpenBundle) (s : State) :
    (setBundle b o s).saw = s.saw := rfl
@[simp] theorem setBundle_heads (b : Bay) (o : Option OpenBundle) (s : State) :
    (setBundle b o s).heads = s.heads := rfl
@[simp] theorem setBundle_sort (b : Bay) (o : Option OpenBundle) (s : State) :
    (setBundle b o s).sort = s.sort := rfl
@[simp] theorem setBundle_bundles (b : Bay) (o : Option OpenBundle) (s : State) :
    (setBundle b o s).bundles =
    { s.bundles with bundles := s.bundles.bundles.set b o } := rfl
@[simp] theorem setBundle_labels (b : Bay) (o : Option OpenBundle) (s : State) :
    (setBundle b o s).labels = s.labels := rfl
@[simp] theorem setBundle_printer (b : Bay) (o : Option OpenBundle) (s : State) :
    (setBundle b o s).printer = s.printer := rfl
@[simp] theorem setBundle_link (b : Bay) (o : Option OpenBundle) (s : State) :
    (setBundle b o s).link = s.link := rfl
@[simp] theorem setBundle_store (b : Bay) (o : Option OpenBundle) (s : State) :
    (setBundle b o s).store = s.store := rfl
@[simp] theorem setBundle_races (b : Bay) (o : Option OpenBundle) (s : State) :
    (setBundle b o s).races = s.races := rfl
@[simp] theorem setBundle_pending (b : Bay) (o : Option OpenBundle) (s : State) :
    (setBundle b o s).pending = s.pending := rfl

/-! ### sendScanner -/

@[simp] theorem sendScanner_now (frame : List Byte) (s : State) : (sendScanner frame s).now = s.now := rfl
@[simp] theorem sendScanner_powered (frame : List Byte) (s : State) :
    (sendScanner frame s).powered = s.powered := rfl
@[simp] theorem sendScanner_track (frame : List Byte) (s : State) :
    (sendScanner frame s).track = s.track := rfl
@[simp] theorem sendScanner_sup (frame : List Byte) (s : State) : (sendScanner frame s).sup = s.sup := rfl
@[simp] theorem sendScanner_scanner (frame : List Byte) (s : State) :
    (sendScanner frame s).scanner =
    { s.scanner with tx := s.scanner.tx ++ [frame] } := rfl
@[simp] theorem sendScanner_grading (frame : List Byte) (s : State) :
    (sendScanner frame s).grading = s.grading := rfl
@[simp] theorem sendScanner_saw (frame : List Byte) (s : State) : (sendScanner frame s).saw = s.saw := rfl
@[simp] theorem sendScanner_heads (frame : List Byte) (s : State) :
    (sendScanner frame s).heads = s.heads := rfl
@[simp] theorem sendScanner_sort (frame : List Byte) (s : State) :
    (sendScanner frame s).sort = s.sort := rfl
@[simp] theorem sendScanner_bundles (frame : List Byte) (s : State) :
    (sendScanner frame s).bundles = s.bundles := rfl
@[simp] theorem sendScanner_labels (frame : List Byte) (s : State) :
    (sendScanner frame s).labels = s.labels := rfl
@[simp] theorem sendScanner_printer (frame : List Byte) (s : State) :
    (sendScanner frame s).printer = s.printer := rfl
@[simp] theorem sendScanner_link (frame : List Byte) (s : State) :
    (sendScanner frame s).link = s.link := rfl
@[simp] theorem sendScanner_store (frame : List Byte) (s : State) :
    (sendScanner frame s).store = s.store := rfl
@[simp] theorem sendScanner_races (frame : List Byte) (s : State) :
    (sendScanner frame s).races = s.races := rfl
@[simp] theorem sendScanner_pending (frame : List Byte) (s : State) :
    (sendScanner frame s).pending = s.pending := rfl

/-! ### sendSaw -/

@[simp] theorem sendSaw_now (frame : List Byte) (s : State) : (sendSaw frame s).now = s.now := rfl
@[simp] theorem sendSaw_powered (frame : List Byte) (s : State) :
    (sendSaw frame s).powered = s.powered := rfl
@[simp] theorem sendSaw_track (frame : List Byte) (s : State) : (sendSaw frame s).track = s.track := rfl
@[simp] theorem sendSaw_sup (frame : List Byte) (s : State) : (sendSaw frame s).sup = s.sup := rfl
@[simp] theorem sendSaw_scanner (frame : List Byte) (s : State) :
    (sendSaw frame s).scanner = s.scanner := rfl
@[simp] theorem sendSaw_grading (frame : List Byte) (s : State) :
    (sendSaw frame s).grading = s.grading := rfl
@[simp] theorem sendSaw_saw (frame : List Byte) (s : State) :
    (sendSaw frame s).saw =
    { s.saw with tx := s.saw.tx ++ [frame] } := rfl
@[simp] theorem sendSaw_heads (frame : List Byte) (s : State) : (sendSaw frame s).heads = s.heads := rfl
@[simp] theorem sendSaw_sort (frame : List Byte) (s : State) : (sendSaw frame s).sort = s.sort := rfl
@[simp] theorem sendSaw_bundles (frame : List Byte) (s : State) :
    (sendSaw frame s).bundles = s.bundles := rfl
@[simp] theorem sendSaw_labels (frame : List Byte) (s : State) : (sendSaw frame s).labels = s.labels := rfl
@[simp] theorem sendSaw_printer (frame : List Byte) (s : State) :
    (sendSaw frame s).printer = s.printer := rfl
@[simp] theorem sendSaw_link (frame : List Byte) (s : State) : (sendSaw frame s).link = s.link := rfl
@[simp] theorem sendSaw_store (frame : List Byte) (s : State) : (sendSaw frame s).store = s.store := rfl
@[simp] theorem sendSaw_races (frame : List Byte) (s : State) : (sendSaw frame s).races = s.races := rfl
@[simp] theorem sendSaw_pending (frame : List Byte) (s : State) :
    (sendSaw frame s).pending = s.pending := rfl

/-! ### sendPrinter -/

@[simp] theorem sendPrinter_now (frame : List Byte) (s : State) : (sendPrinter frame s).now = s.now := rfl
@[simp] theorem sendPrinter_powered (frame : List Byte) (s : State) :
    (sendPrinter frame s).powered = s.powered := rfl
@[simp] theorem sendPrinter_track (frame : List Byte) (s : State) :
    (sendPrinter frame s).track = s.track := rfl
@[simp] theorem sendPrinter_sup (frame : List Byte) (s : State) : (sendPrinter frame s).sup = s.sup := rfl
@[simp] theorem sendPrinter_scanner (frame : List Byte) (s : State) :
    (sendPrinter frame s).scanner = s.scanner := rfl
@[simp] theorem sendPrinter_grading (frame : List Byte) (s : State) :
    (sendPrinter frame s).grading = s.grading := rfl
@[simp] theorem sendPrinter_saw (frame : List Byte) (s : State) : (sendPrinter frame s).saw = s.saw := rfl
@[simp] theorem sendPrinter_heads (frame : List Byte) (s : State) :
    (sendPrinter frame s).heads = s.heads := rfl
@[simp] theorem sendPrinter_sort (frame : List Byte) (s : State) :
    (sendPrinter frame s).sort = s.sort := rfl
@[simp] theorem sendPrinter_bundles (frame : List Byte) (s : State) :
    (sendPrinter frame s).bundles = s.bundles := rfl
@[simp] theorem sendPrinter_labels (frame : List Byte) (s : State) :
    (sendPrinter frame s).labels = s.labels := rfl
@[simp] theorem sendPrinter_printer (frame : List Byte) (s : State) :
    (sendPrinter frame s).printer =
    { s.printer with tx := s.printer.tx ++ [frame] } := rfl
@[simp] theorem sendPrinter_link (frame : List Byte) (s : State) :
    (sendPrinter frame s).link = s.link := rfl
@[simp] theorem sendPrinter_store (frame : List Byte) (s : State) :
    (sendPrinter frame s).store = s.store := rfl
@[simp] theorem sendPrinter_races (frame : List Byte) (s : State) :
    (sendPrinter frame s).races = s.races := rfl
@[simp] theorem sendPrinter_pending (frame : List Byte) (s : State) :
    (sendPrinter frame s).pending = s.pending := rfl

/-! ### latchAlarm -/

@[simp] theorem latchAlarm_now (a : Alarm) (s : State) : (latchAlarm a s).now = s.now := rfl
@[simp] theorem latchAlarm_powered (a : Alarm) (s : State) : (latchAlarm a s).powered = s.powered := rfl
@[simp] theorem latchAlarm_track (a : Alarm) (s : State) : (latchAlarm a s).track = s.track := rfl
@[simp] theorem latchAlarm_sup (a : Alarm) (s : State) :
    (latchAlarm a s).sup =
    { s.sup with alarms := Alarm.all.filter (fun b => b == a || s.sup.alarms.contains b) } := rfl
@[simp] theorem latchAlarm_scanner (a : Alarm) (s : State) : (latchAlarm a s).scanner = s.scanner := rfl
@[simp] theorem latchAlarm_grading (a : Alarm) (s : State) : (latchAlarm a s).grading = s.grading := rfl
@[simp] theorem latchAlarm_saw (a : Alarm) (s : State) : (latchAlarm a s).saw = s.saw := rfl
@[simp] theorem latchAlarm_heads (a : Alarm) (s : State) : (latchAlarm a s).heads = s.heads := rfl
@[simp] theorem latchAlarm_sort (a : Alarm) (s : State) : (latchAlarm a s).sort = s.sort := rfl
@[simp] theorem latchAlarm_bundles (a : Alarm) (s : State) : (latchAlarm a s).bundles = s.bundles := rfl
@[simp] theorem latchAlarm_labels (a : Alarm) (s : State) : (latchAlarm a s).labels = s.labels := rfl
@[simp] theorem latchAlarm_printer (a : Alarm) (s : State) : (latchAlarm a s).printer = s.printer := rfl
@[simp] theorem latchAlarm_link (a : Alarm) (s : State) : (latchAlarm a s).link = s.link := rfl
@[simp] theorem latchAlarm_store (a : Alarm) (s : State) : (latchAlarm a s).store = s.store := rfl
@[simp] theorem latchAlarm_races (a : Alarm) (s : State) : (latchAlarm a s).races = s.races := rfl
@[simp] theorem latchAlarm_pending (a : Alarm) (s : State) : (latchAlarm a s).pending = s.pending := rfl

/-! ### insertHold -/

@[simp] theorem insertHold_now (h : HoldSource) (s : State) : (insertHold h s).now = s.now := rfl
@[simp] theorem insertHold_powered (h : HoldSource) (s : State) :
    (insertHold h s).powered = s.powered := rfl
@[simp] theorem insertHold_track (h : HoldSource) (s : State) : (insertHold h s).track = s.track := rfl
@[simp] theorem insertHold_sup (h : HoldSource) (s : State) :
    (insertHold h s).sup =
    { s.sup with holds := HoldSource.all.filter (fun g => g == h || s.sup.holds.contains g) } := rfl
@[simp] theorem insertHold_scanner (h : HoldSource) (s : State) :
    (insertHold h s).scanner = s.scanner := rfl
@[simp] theorem insertHold_grading (h : HoldSource) (s : State) :
    (insertHold h s).grading = s.grading := rfl
@[simp] theorem insertHold_saw (h : HoldSource) (s : State) : (insertHold h s).saw = s.saw := rfl
@[simp] theorem insertHold_heads (h : HoldSource) (s : State) : (insertHold h s).heads = s.heads := rfl
@[simp] theorem insertHold_sort (h : HoldSource) (s : State) : (insertHold h s).sort = s.sort := rfl
@[simp] theorem insertHold_bundles (h : HoldSource) (s : State) :
    (insertHold h s).bundles = s.bundles := rfl
@[simp] theorem insertHold_labels (h : HoldSource) (s : State) : (insertHold h s).labels = s.labels := rfl
@[simp] theorem insertHold_printer (h : HoldSource) (s : State) :
    (insertHold h s).printer = s.printer := rfl
@[simp] theorem insertHold_link (h : HoldSource) (s : State) : (insertHold h s).link = s.link := rfl
@[simp] theorem insertHold_store (h : HoldSource) (s : State) : (insertHold h s).store = s.store := rfl
@[simp] theorem insertHold_races (h : HoldSource) (s : State) : (insertHold h s).races = s.races := rfl
@[simp] theorem insertHold_pending (h : HoldSource) (s : State) :
    (insertHold h s).pending = s.pending := rfl

/-! ### eraseHold -/

@[simp] theorem eraseHold_now (h : HoldSource) (s : State) : (eraseHold h s).now = s.now := rfl
@[simp] theorem eraseHold_powered (h : HoldSource) (s : State) : (eraseHold h s).powered = s.powered := rfl
@[simp] theorem eraseHold_track (h : HoldSource) (s : State) : (eraseHold h s).track = s.track := rfl
@[simp] theorem eraseHold_sup (h : HoldSource) (s : State) :
    (eraseHold h s).sup =
    { s.sup with holds := s.sup.holds.filter (fun g => g != h) } := rfl
@[simp] theorem eraseHold_scanner (h : HoldSource) (s : State) : (eraseHold h s).scanner = s.scanner := rfl
@[simp] theorem eraseHold_grading (h : HoldSource) (s : State) : (eraseHold h s).grading = s.grading := rfl
@[simp] theorem eraseHold_saw (h : HoldSource) (s : State) : (eraseHold h s).saw = s.saw := rfl
@[simp] theorem eraseHold_heads (h : HoldSource) (s : State) : (eraseHold h s).heads = s.heads := rfl
@[simp] theorem eraseHold_sort (h : HoldSource) (s : State) : (eraseHold h s).sort = s.sort := rfl
@[simp] theorem eraseHold_bundles (h : HoldSource) (s : State) : (eraseHold h s).bundles = s.bundles := rfl
@[simp] theorem eraseHold_labels (h : HoldSource) (s : State) : (eraseHold h s).labels = s.labels := rfl
@[simp] theorem eraseHold_printer (h : HoldSource) (s : State) : (eraseHold h s).printer = s.printer := rfl
@[simp] theorem eraseHold_link (h : HoldSource) (s : State) : (eraseHold h s).link = s.link := rfl
@[simp] theorem eraseHold_store (h : HoldSource) (s : State) : (eraseHold h s).store = s.store := rfl
@[simp] theorem eraseHold_races (h : HoldSource) (s : State) : (eraseHold h s).races = s.races := rfl
@[simp] theorem eraseHold_pending (h : HoldSource) (s : State) : (eraseHold h s).pending = s.pending := rfl

/-! ### give -/

@[simp] theorem give_now (n : Notice) (s : State) : (give n s).now = s.now := rfl
@[simp] theorem give_powered (n : Notice) (s : State) : (give n s).powered = s.powered := rfl
@[simp] theorem give_track (n : Notice) (s : State) : (give n s).track = s.track := rfl
@[simp] theorem give_sup (n : Notice) (s : State) : (give n s).sup = s.sup := rfl
@[simp] theorem give_scanner (n : Notice) (s : State) : (give n s).scanner = s.scanner := rfl
@[simp] theorem give_grading (n : Notice) (s : State) : (give n s).grading = s.grading := rfl
@[simp] theorem give_saw (n : Notice) (s : State) : (give n s).saw = s.saw := rfl
@[simp] theorem give_heads (n : Notice) (s : State) : (give n s).heads = s.heads := rfl
@[simp] theorem give_sort (n : Notice) (s : State) : (give n s).sort = s.sort := rfl
@[simp] theorem give_bundles (n : Notice) (s : State) : (give n s).bundles = s.bundles := rfl
@[simp] theorem give_labels (n : Notice) (s : State) : (give n s).labels = s.labels := rfl
@[simp] theorem give_printer (n : Notice) (s : State) : (give n s).printer = s.printer := rfl
@[simp] theorem give_link (n : Notice) (s : State) :
    (give n s).link =
    giveLink n s.link := rfl
@[simp] theorem give_store (n : Notice) (s : State) : (give n s).store = s.store := rfl
@[simp] theorem give_races (n : Notice) (s : State) : (give n s).races = s.races := rfl
@[simp] theorem give_pending (n : Notice) (s : State) : (give n s).pending = s.pending := rfl

/-! ### hostStage -/

@[simp] theorem hostStage_now (st : RxStage) (s : State) : (hostStage st s).now = s.now := rfl
@[simp] theorem hostStage_powered (st : RxStage) (s : State) : (hostStage st s).powered = s.powered := rfl
@[simp] theorem hostStage_track (st : RxStage) (s : State) : (hostStage st s).track = s.track := rfl
@[simp] theorem hostStage_sup (st : RxStage) (s : State) : (hostStage st s).sup = s.sup := rfl
@[simp] theorem hostStage_scanner (st : RxStage) (s : State) : (hostStage st s).scanner = s.scanner := rfl
@[simp] theorem hostStage_grading (st : RxStage) (s : State) : (hostStage st s).grading = s.grading := rfl
@[simp] theorem hostStage_saw (st : RxStage) (s : State) : (hostStage st s).saw = s.saw := rfl
@[simp] theorem hostStage_heads (st : RxStage) (s : State) : (hostStage st s).heads = s.heads := rfl
@[simp] theorem hostStage_sort (st : RxStage) (s : State) : (hostStage st s).sort = s.sort := rfl
@[simp] theorem hostStage_bundles (st : RxStage) (s : State) : (hostStage st s).bundles = s.bundles := rfl
@[simp] theorem hostStage_labels (st : RxStage) (s : State) : (hostStage st s).labels = s.labels := rfl
@[simp] theorem hostStage_printer (st : RxStage) (s : State) : (hostStage st s).printer = s.printer := rfl
@[simp] theorem hostStage_link (st : RxStage) (s : State) :
    (hostStage st s).link =
    { s.link with rx := { s.link.rx with stage := st } } := rfl
@[simp] theorem hostStage_store (st : RxStage) (s : State) : (hostStage st s).store = s.store := rfl
@[simp] theorem hostStage_races (st : RxStage) (s : State) : (hostStage st s).races = s.races := rfl
@[simp] theorem hostStage_pending (st : RxStage) (s : State) : (hostStage st s).pending = s.pending := rfl

/-! ### hostError -/

@[simp] theorem hostError_now (s : State) : (hostError s).now = s.now := rfl
@[simp] theorem hostError_powered (s : State) : (hostError s).powered = s.powered := rfl
@[simp] theorem hostError_track (s : State) : (hostError s).track = s.track := rfl
@[simp] theorem hostError_sup (s : State) : (hostError s).sup = s.sup := rfl
@[simp] theorem hostError_scanner (s : State) : (hostError s).scanner = s.scanner := rfl
@[simp] theorem hostError_grading (s : State) : (hostError s).grading = s.grading := rfl
@[simp] theorem hostError_saw (s : State) : (hostError s).saw = s.saw := rfl
@[simp] theorem hostError_heads (s : State) : (hostError s).heads = s.heads := rfl
@[simp] theorem hostError_sort (s : State) : (hostError s).sort = s.sort := rfl
@[simp] theorem hostError_bundles (s : State) : (hostError s).bundles = s.bundles := rfl
@[simp] theorem hostError_labels (s : State) : (hostError s).labels = s.labels := rfl
@[simp] theorem hostError_printer (s : State) : (hostError s).printer = s.printer := rfl
@[simp] theorem hostError_link (s : State) :
    (hostError s).link =
    { s.link with errors := sat16 s.link.errors, rx := { s.link.rx with stage := .hunt } } := rfl
@[simp] theorem hostError_store (s : State) : (hostError s).store = s.store := rfl
@[simp] theorem hostError_races (s : State) : (hostError s).races = s.races := rfl
@[simp] theorem hostError_pending (s : State) : (hostError s).pending = s.pending := rfl

/-! ### clearScannerRx -/

@[simp] theorem clearScannerRx_now (s : State) : (clearScannerRx s).now = s.now := rfl
@[simp] theorem clearScannerRx_powered (s : State) : (clearScannerRx s).powered = s.powered := rfl
@[simp] theorem clearScannerRx_track (s : State) : (clearScannerRx s).track = s.track := rfl
@[simp] theorem clearScannerRx_sup (s : State) : (clearScannerRx s).sup = s.sup := rfl
@[simp] theorem clearScannerRx_scanner (s : State) :
    (clearScannerRx s).scanner =
    { s.scanner with rx := { s.scanner.rx with stage := .hunt } } := rfl
@[simp] theorem clearScannerRx_grading (s : State) : (clearScannerRx s).grading = s.grading := rfl
@[simp] theorem clearScannerRx_saw (s : State) : (clearScannerRx s).saw = s.saw := rfl
@[simp] theorem clearScannerRx_heads (s : State) : (clearScannerRx s).heads = s.heads := rfl
@[simp] theorem clearScannerRx_sort (s : State) : (clearScannerRx s).sort = s.sort := rfl
@[simp] theorem clearScannerRx_bundles (s : State) : (clearScannerRx s).bundles = s.bundles := rfl
@[simp] theorem clearScannerRx_labels (s : State) : (clearScannerRx s).labels = s.labels := rfl
@[simp] theorem clearScannerRx_printer (s : State) : (clearScannerRx s).printer = s.printer := rfl
@[simp] theorem clearScannerRx_link (s : State) : (clearScannerRx s).link = s.link := rfl
@[simp] theorem clearScannerRx_store (s : State) : (clearScannerRx s).store = s.store := rfl
@[simp] theorem clearScannerRx_races (s : State) : (clearScannerRx s).races = s.races := rfl
@[simp] theorem clearScannerRx_pending (s : State) : (clearScannerRx s).pending = s.pending := rfl

/-! ### clearSawRx -/

@[simp] theorem clearSawRx_now (s : State) : (clearSawRx s).now = s.now := rfl
@[simp] theorem clearSawRx_powered (s : State) : (clearSawRx s).powered = s.powered := rfl
@[simp] theorem clearSawRx_track (s : State) : (clearSawRx s).track = s.track := rfl
@[simp] theorem clearSawRx_sup (s : State) : (clearSawRx s).sup = s.sup := rfl
@[simp] theorem clearSawRx_scanner (s : State) : (clearSawRx s).scanner = s.scanner := rfl
@[simp] theorem clearSawRx_grading (s : State) : (clearSawRx s).grading = s.grading := rfl
@[simp] theorem clearSawRx_saw (s : State) :
    (clearSawRx s).saw =
    { s.saw with rx := { s.saw.rx with stage := .hunt } } := rfl
@[simp] theorem clearSawRx_heads (s : State) : (clearSawRx s).heads = s.heads := rfl
@[simp] theorem clearSawRx_sort (s : State) : (clearSawRx s).sort = s.sort := rfl
@[simp] theorem clearSawRx_bundles (s : State) : (clearSawRx s).bundles = s.bundles := rfl
@[simp] theorem clearSawRx_labels (s : State) : (clearSawRx s).labels = s.labels := rfl
@[simp] theorem clearSawRx_printer (s : State) : (clearSawRx s).printer = s.printer := rfl
@[simp] theorem clearSawRx_link (s : State) : (clearSawRx s).link = s.link := rfl
@[simp] theorem clearSawRx_store (s : State) : (clearSawRx s).store = s.store := rfl
@[simp] theorem clearSawRx_races (s : State) : (clearSawRx s).races = s.races := rfl
@[simp] theorem clearSawRx_pending (s : State) : (clearSawRx s).pending = s.pending := rfl

/-! ### clearPrinterRx -/

@[simp] theorem clearPrinterRx_now (s : State) : (clearPrinterRx s).now = s.now := rfl
@[simp] theorem clearPrinterRx_powered (s : State) : (clearPrinterRx s).powered = s.powered := rfl
@[simp] theorem clearPrinterRx_track (s : State) : (clearPrinterRx s).track = s.track := rfl
@[simp] theorem clearPrinterRx_sup (s : State) : (clearPrinterRx s).sup = s.sup := rfl
@[simp] theorem clearPrinterRx_scanner (s : State) : (clearPrinterRx s).scanner = s.scanner := rfl
@[simp] theorem clearPrinterRx_grading (s : State) : (clearPrinterRx s).grading = s.grading := rfl
@[simp] theorem clearPrinterRx_saw (s : State) : (clearPrinterRx s).saw = s.saw := rfl
@[simp] theorem clearPrinterRx_heads (s : State) : (clearPrinterRx s).heads = s.heads := rfl
@[simp] theorem clearPrinterRx_sort (s : State) : (clearPrinterRx s).sort = s.sort := rfl
@[simp] theorem clearPrinterRx_bundles (s : State) : (clearPrinterRx s).bundles = s.bundles := rfl
@[simp] theorem clearPrinterRx_labels (s : State) : (clearPrinterRx s).labels = s.labels := rfl
@[simp] theorem clearPrinterRx_printer (s : State) :
    (clearPrinterRx s).printer =
    { s.printer with rx := { s.printer.rx with stage := .hunt } } := rfl
@[simp] theorem clearPrinterRx_link (s : State) : (clearPrinterRx s).link = s.link := rfl
@[simp] theorem clearPrinterRx_store (s : State) : (clearPrinterRx s).store = s.store := rfl
@[simp] theorem clearPrinterRx_races (s : State) : (clearPrinterRx s).races = s.races := rfl
@[simp] theorem clearPrinterRx_pending (s : State) : (clearPrinterRx s).pending = s.pending := rfl

/-! ### receptionIdle -/

@[simp] theorem receptionIdle_now (s : State) : (receptionIdle s).now = s.now := rfl
@[simp] theorem receptionIdle_powered (s : State) : (receptionIdle s).powered = s.powered := rfl
@[simp] theorem receptionIdle_track (s : State) : (receptionIdle s).track = s.track := rfl
@[simp] theorem receptionIdle_sup (s : State) : (receptionIdle s).sup = s.sup := rfl
@[simp] theorem receptionIdle_scanner (s : State) :
    (receptionIdle s).scanner =
    { s.scanner with reception := .idle, receiving := none } := rfl
@[simp] theorem receptionIdle_grading (s : State) : (receptionIdle s).grading = s.grading := rfl
@[simp] theorem receptionIdle_saw (s : State) : (receptionIdle s).saw = s.saw := rfl
@[simp] theorem receptionIdle_heads (s : State) : (receptionIdle s).heads = s.heads := rfl
@[simp] theorem receptionIdle_sort (s : State) : (receptionIdle s).sort = s.sort := rfl
@[simp] theorem receptionIdle_bundles (s : State) : (receptionIdle s).bundles = s.bundles := rfl
@[simp] theorem receptionIdle_labels (s : State) : (receptionIdle s).labels = s.labels := rfl
@[simp] theorem receptionIdle_printer (s : State) : (receptionIdle s).printer = s.printer := rfl
@[simp] theorem receptionIdle_link (s : State) : (receptionIdle s).link = s.link := rfl
@[simp] theorem receptionIdle_store (s : State) : (receptionIdle s).store = s.store := rfl
@[simp] theorem receptionIdle_races (s : State) : (receptionIdle s).races = s.races := rfl
@[simp] theorem receptionIdle_pending (s : State) : (receptionIdle s).pending = s.pending := rfl

/-! ### receptionDiscard -/

@[simp] theorem receptionDiscard_now (s : State) : (receptionDiscard s).now = s.now := rfl
@[simp] theorem receptionDiscard_powered (s : State) : (receptionDiscard s).powered = s.powered := rfl
@[simp] theorem receptionDiscard_track (s : State) : (receptionDiscard s).track = s.track := rfl
@[simp] theorem receptionDiscard_sup (s : State) : (receptionDiscard s).sup = s.sup := rfl
@[simp] theorem receptionDiscard_scanner (s : State) :
    (receptionDiscard s).scanner =
    { s.scanner with reception := .discarding, receiving := none } := rfl
@[simp] theorem receptionDiscard_grading (s : State) : (receptionDiscard s).grading = s.grading := rfl
@[simp] theorem receptionDiscard_saw (s : State) : (receptionDiscard s).saw = s.saw := rfl
@[simp] theorem receptionDiscard_heads (s : State) : (receptionDiscard s).heads = s.heads := rfl
@[simp] theorem receptionDiscard_sort (s : State) : (receptionDiscard s).sort = s.sort := rfl
@[simp] theorem receptionDiscard_bundles (s : State) : (receptionDiscard s).bundles = s.bundles := rfl
@[simp] theorem receptionDiscard_labels (s : State) : (receptionDiscard s).labels = s.labels := rfl
@[simp] theorem receptionDiscard_printer (s : State) : (receptionDiscard s).printer = s.printer := rfl
@[simp] theorem receptionDiscard_link (s : State) : (receptionDiscard s).link = s.link := rfl
@[simp] theorem receptionDiscard_store (s : State) : (receptionDiscard s).store = s.store := rfl
@[simp] theorem receptionDiscard_races (s : State) : (receptionDiscard s).races = s.races := rfl
@[simp] theorem receptionDiscard_pending (s : State) : (receptionDiscard s).pending = s.pending := rfl

/-! ### removeOrder -/

@[simp] theorem removeOrder_now (n : StripNo) (s : State) : (removeOrder n s).now = s.now := rfl
@[simp] theorem removeOrder_powered (n : StripNo) (s : State) : (removeOrder n s).powered = s.powered := rfl
@[simp] theorem removeOrder_track (n : StripNo) (s : State) : (removeOrder n s).track = s.track := rfl
@[simp] theorem removeOrder_sup (n : StripNo) (s : State) : (removeOrder n s).sup = s.sup := rfl
@[simp] theorem removeOrder_scanner (n : StripNo) (s : State) : (removeOrder n s).scanner = s.scanner := rfl
@[simp] theorem removeOrder_grading (n : StripNo) (s : State) : (removeOrder n s).grading = s.grading := rfl
@[simp] theorem removeOrder_saw (n : StripNo) (s : State) :
    (removeOrder n s).saw =
    { s.saw with orders := s.saw.orders.filter (fun o => o.strip != n) } := rfl
@[simp] theorem removeOrder_heads (n : StripNo) (s : State) : (removeOrder n s).heads = s.heads := rfl
@[simp] theorem removeOrder_sort (n : StripNo) (s : State) : (removeOrder n s).sort = s.sort := rfl
@[simp] theorem removeOrder_bundles (n : StripNo) (s : State) : (removeOrder n s).bundles = s.bundles := rfl
@[simp] theorem removeOrder_labels (n : StripNo) (s : State) : (removeOrder n s).labels = s.labels := rfl
@[simp] theorem removeOrder_printer (n : StripNo) (s : State) : (removeOrder n s).printer = s.printer := rfl
@[simp] theorem removeOrder_link (n : StripNo) (s : State) : (removeOrder n s).link = s.link := rfl
@[simp] theorem removeOrder_store (n : StripNo) (s : State) : (removeOrder n s).store = s.store := rfl
@[simp] theorem removeOrder_races (n : StripNo) (s : State) : (removeOrder n s).races = s.races := rfl
@[simp] theorem removeOrder_pending (n : StripNo) (s : State) : (removeOrder n s).pending = s.pending := rfl

/-! ### dropLabel -/

@[simp] theorem dropLabel_now (s : State) : (dropLabel s).now = s.now := rfl
@[simp] theorem dropLabel_powered (s : State) : (dropLabel s).powered = s.powered := rfl
@[simp] theorem dropLabel_track (s : State) : (dropLabel s).track = s.track := rfl
@[simp] theorem dropLabel_sup (s : State) : (dropLabel s).sup = s.sup := rfl
@[simp] theorem dropLabel_scanner (s : State) : (dropLabel s).scanner = s.scanner := rfl
@[simp] theorem dropLabel_grading (s : State) : (dropLabel s).grading = s.grading := rfl
@[simp] theorem dropLabel_saw (s : State) : (dropLabel s).saw = s.saw := rfl
@[simp] theorem dropLabel_heads (s : State) : (dropLabel s).heads = s.heads := rfl
@[simp] theorem dropLabel_sort (s : State) : (dropLabel s).sort = s.sort := rfl
@[simp] theorem dropLabel_bundles (s : State) : (dropLabel s).bundles = s.bundles := rfl
@[simp] theorem dropLabel_labels (s : State) :
    (dropLabel s).labels =
    { s.labels with queue := s.labels.queue.tail } := rfl
@[simp] theorem dropLabel_printer (s : State) :
    (dropLabel s).printer =
    { s.printer with inFlight := false, applyExpiry := none } := rfl
@[simp] theorem dropLabel_link (s : State) : (dropLabel s).link = s.link := rfl
@[simp] theorem dropLabel_store (s : State) : (dropLabel s).store = s.store := rfl
@[simp] theorem dropLabel_races (s : State) : (dropLabel s).races = s.races := rfl
@[simp] theorem dropLabel_pending (s : State) : (dropLabel s).pending = s.pending := rfl

/-! ### skipSlice -/

@[simp] theorem skipSlice_now (s : State) : (skipSlice s).now = s.now := rfl
@[simp] theorem skipSlice_powered (s : State) : (skipSlice s).powered = s.powered := rfl
@[simp] theorem skipSlice_track (s : State) : (skipSlice s).track = s.track := rfl
@[simp] theorem skipSlice_sup (s : State) : (skipSlice s).sup = s.sup := rfl
@[simp] theorem skipSlice_scanner (s : State) : (skipSlice s).scanner = s.scanner := rfl
@[simp] theorem skipSlice_grading (s : State) : (skipSlice s).grading = s.grading := rfl
@[simp] theorem skipSlice_saw (s : State) : (skipSlice s).saw = s.saw := rfl
@[simp] theorem skipSlice_heads (s : State) :
    (skipSlice s).heads =
    { s.heads with skipped := sat16 s.heads.skipped } := rfl
@[simp] theorem skipSlice_sort (s : State) : (skipSlice s).sort = s.sort := rfl
@[simp] theorem skipSlice_bundles (s : State) : (skipSlice s).bundles = s.bundles := rfl
@[simp] theorem skipSlice_labels (s : State) : (skipSlice s).labels = s.labels := rfl
@[simp] theorem skipSlice_printer (s : State) : (skipSlice s).printer = s.printer := rfl
@[simp] theorem skipSlice_link (s : State) : (skipSlice s).link = s.link := rfl
@[simp] theorem skipSlice_store (s : State) : (skipSlice s).store = s.store := rfl
@[simp] theorem skipSlice_races (s : State) : (skipSlice s).races = s.races := rfl
@[simp] theorem skipSlice_pending (s : State) : (skipSlice s).pending = s.pending := rfl

/-! ### zeroPeaks -/

@[simp] theorem zeroPeaks_now (s : State) : (zeroPeaks s).now = s.now := rfl
@[simp] theorem zeroPeaks_powered (s : State) : (zeroPeaks s).powered = s.powered := rfl
@[simp] theorem zeroPeaks_track (s : State) : (zeroPeaks s).track = s.track := rfl
@[simp] theorem zeroPeaks_sup (s : State) : (zeroPeaks s).sup = s.sup := rfl
@[simp] theorem zeroPeaks_scanner (s : State) : (zeroPeaks s).scanner = s.scanner := rfl
@[simp] theorem zeroPeaks_grading (s : State) : (zeroPeaks s).grading = s.grading := rfl
@[simp] theorem zeroPeaks_saw (s : State) : (zeroPeaks s).saw = s.saw := rfl
@[simp] theorem zeroPeaks_heads (s : State) :
    (zeroPeaks s).heads =
    { s.heads with records := s.heads.records.map (fun r => { r with peak := 0 }) } := rfl
@[simp] theorem zeroPeaks_sort (s : State) : (zeroPeaks s).sort = s.sort := rfl
@[simp] theorem zeroPeaks_bundles (s : State) : (zeroPeaks s).bundles = s.bundles := rfl
@[simp] theorem zeroPeaks_labels (s : State) : (zeroPeaks s).labels = s.labels := rfl
@[simp] theorem zeroPeaks_printer (s : State) : (zeroPeaks s).printer = s.printer := rfl
@[simp] theorem zeroPeaks_link (s : State) : (zeroPeaks s).link = s.link := rfl
@[simp] theorem zeroPeaks_store (s : State) : (zeroPeaks s).store = s.store := rfl
@[simp] theorem zeroPeaks_races (s : State) : (zeroPeaks s).races = s.races := rfl
@[simp] theorem zeroPeaks_pending (s : State) : (zeroPeaks s).pending = s.pending := rfl

/-! ### clearChecks -/

@[simp] theorem clearChecks_now (s : State) : (clearChecks s).now = s.now := rfl
@[simp] theorem clearChecks_powered (s : State) : (clearChecks s).powered = s.powered := rfl
@[simp] theorem clearChecks_track (s : State) : (clearChecks s).track = s.track := rfl
@[simp] theorem clearChecks_sup (s : State) : (clearChecks s).sup = s.sup := rfl
@[simp] theorem clearChecks_scanner (s : State) : (clearChecks s).scanner = s.scanner := rfl
@[simp] theorem clearChecks_grading (s : State) : (clearChecks s).grading = s.grading := rfl
@[simp] theorem clearChecks_saw (s : State) : (clearChecks s).saw = s.saw := rfl
@[simp] theorem clearChecks_heads (s : State) :
    (clearChecks s).heads =
    { s.heads with records := s.heads.records.map (fun r => { r with checkResult := none }) } := rfl
@[simp] theorem clearChecks_sort (s : State) : (clearChecks s).sort = s.sort := rfl
@[simp] theorem clearChecks_bundles (s : State) : (clearChecks s).bundles = s.bundles := rfl
@[simp] theorem clearChecks_labels (s : State) : (clearChecks s).labels = s.labels := rfl
@[simp] theorem clearChecks_printer (s : State) : (clearChecks s).printer = s.printer := rfl
@[simp] theorem clearChecks_link (s : State) : (clearChecks s).link = s.link := rfl
@[simp] theorem clearChecks_store (s : State) : (clearChecks s).store = s.store := rfl
@[simp] theorem clearChecks_races (s : State) : (clearChecks s).races = s.races := rfl
@[simp] theorem clearChecks_pending (s : State) : (clearChecks s).pending = s.pending := rfl

/-! ### emptyBin -/

@[simp] theorem emptyBin_now (b : Bay) (s : State) : (emptyBin b s).now = s.now := rfl
@[simp] theorem emptyBin_powered (b : Bay) (s : State) : (emptyBin b s).powered = s.powered := rfl
@[simp] theorem emptyBin_track (b : Bay) (s : State) : (emptyBin b s).track = s.track := rfl
@[simp] theorem emptyBin_sup (b : Bay) (s : State) : (emptyBin b s).sup = s.sup := rfl
@[simp] theorem emptyBin_scanner (b : Bay) (s : State) : (emptyBin b s).scanner = s.scanner := rfl
@[simp] theorem emptyBin_grading (b : Bay) (s : State) : (emptyBin b s).grading = s.grading := rfl
@[simp] theorem emptyBin_saw (b : Bay) (s : State) : (emptyBin b s).saw = s.saw := rfl
@[simp] theorem emptyBin_heads (b : Bay) (s : State) : (emptyBin b s).heads = s.heads := rfl
@[simp] theorem emptyBin_sort (b : Bay) (s : State) :
    (emptyBin b s).sort =
    { s.sort with bays := s.sort.bays.set b { s.sort.bays[b] with occupancy := 0 } } := rfl
@[simp] theorem emptyBin_bundles (b : Bay) (s : State) : (emptyBin b s).bundles = s.bundles := rfl
@[simp] theorem emptyBin_labels (b : Bay) (s : State) : (emptyBin b s).labels = s.labels := rfl
@[simp] theorem emptyBin_printer (b : Bay) (s : State) : (emptyBin b s).printer = s.printer := rfl
@[simp] theorem emptyBin_link (b : Bay) (s : State) : (emptyBin b s).link = s.link := rfl
@[simp] theorem emptyBin_store (b : Bay) (s : State) : (emptyBin b s).store = s.store := rfl
@[simp] theorem emptyBin_races (b : Bay) (s : State) : (emptyBin b s).races = s.races := rfl
@[simp] theorem emptyBin_pending (b : Bay) (s : State) : (emptyBin b s).pending = s.pending := rfl

/-! ### fillBin -/

@[simp] theorem fillBin_now (b : Bay) (s : State) : (fillBin b s).now = s.now := rfl
@[simp] theorem fillBin_powered (b : Bay) (s : State) : (fillBin b s).powered = s.powered := rfl
@[simp] theorem fillBin_track (b : Bay) (s : State) : (fillBin b s).track = s.track := rfl
@[simp] theorem fillBin_sup (b : Bay) (s : State) : (fillBin b s).sup = s.sup := rfl
@[simp] theorem fillBin_scanner (b : Bay) (s : State) : (fillBin b s).scanner = s.scanner := rfl
@[simp] theorem fillBin_grading (b : Bay) (s : State) : (fillBin b s).grading = s.grading := rfl
@[simp] theorem fillBin_saw (b : Bay) (s : State) : (fillBin b s).saw = s.saw := rfl
@[simp] theorem fillBin_heads (b : Bay) (s : State) : (fillBin b s).heads = s.heads := rfl
@[simp] theorem fillBin_sort (b : Bay) (s : State) :
    (fillBin b s).sort =
    { s.sort with
      bays := s.sort.bays.set b
        { s.sort.bays[b] with occupancy := sat16 s.sort.bays[b].occupancy } } := rfl
@[simp] theorem fillBin_bundles (b : Bay) (s : State) : (fillBin b s).bundles = s.bundles := rfl
@[simp] theorem fillBin_labels (b : Bay) (s : State) : (fillBin b s).labels = s.labels := rfl
@[simp] theorem fillBin_printer (b : Bay) (s : State) : (fillBin b s).printer = s.printer := rfl
@[simp] theorem fillBin_link (b : Bay) (s : State) : (fillBin b s).link = s.link := rfl
@[simp] theorem fillBin_store (b : Bay) (s : State) : (fillBin b s).store = s.store := rfl
@[simp] theorem fillBin_races (b : Bay) (s : State) : (fillBin b s).races = s.races := rfl
@[simp] theorem fillBin_pending (b : Bay) (s : State) : (fillBin b s).pending = s.pending := rfl

/-! ### clearAlarms -/

@[simp] theorem clearAlarms_now (s : State) : (clearAlarms s).now = s.now := rfl
@[simp] theorem clearAlarms_powered (s : State) : (clearAlarms s).powered = s.powered := rfl
@[simp] theorem clearAlarms_track (s : State) : (clearAlarms s).track = s.track := rfl
@[simp] theorem clearAlarms_sup (s : State) :
    (clearAlarms s).sup =
    { s.sup with alarms := s.sup.alarms.filter (fun a => !causeAbsent s a) } := rfl
@[simp] theorem clearAlarms_scanner (s : State) : (clearAlarms s).scanner = s.scanner := rfl
@[simp] theorem clearAlarms_grading (s : State) : (clearAlarms s).grading = s.grading := rfl
@[simp] theorem clearAlarms_saw (s : State) : (clearAlarms s).saw = s.saw := rfl
@[simp] theorem clearAlarms_heads (s : State) : (clearAlarms s).heads = s.heads := rfl
@[simp] theorem clearAlarms_sort (s : State) : (clearAlarms s).sort = s.sort := rfl
@[simp] theorem clearAlarms_bundles (s : State) : (clearAlarms s).bundles = s.bundles := rfl
@[simp] theorem clearAlarms_labels (s : State) : (clearAlarms s).labels = s.labels := rfl
@[simp] theorem clearAlarms_printer (s : State) : (clearAlarms s).printer = s.printer := rfl
@[simp] theorem clearAlarms_link (s : State) : (clearAlarms s).link = s.link := rfl
@[simp] theorem clearAlarms_store (s : State) : (clearAlarms s).store = s.store := rfl
@[simp] theorem clearAlarms_races (s : State) : (clearAlarms s).races = s.races := rfl
@[simp] theorem clearAlarms_pending (s : State) : (clearAlarms s).pending = s.pending := rfl

end Sys2Proof.Machine
end

