-- ==== Sys2Proof/Laws/Ops.lean ====
section
/-! SUPPORT. Laws/Ops.lean: for each operation of Machine/Ops.lean, what it can do, said once: giving an
event, moving the line, the hold-source set, and what ends a command. -/

namespace Sys2Proof.Machine

/-! ### Giving an event (R185) -/

@[simp] theorem giveLink_rx (n : Notice) (k : HostLink) : (giveLink n k).rx = k.rx := by
  unfold giveLink; repeat' split
  all_goals rfl

@[simp] theorem giveLink_baud (n : Notice) (k : HostLink) : (giveLink n k).baud = k.baud := by
  unfold giveLink; repeat' split
  all_goals rfl

@[simp] theorem giveLink_replies (n : Notice) (k : HostLink) : (giveLink n k).replies = k.replies := by
  unfold giveLink; repeat' split
  all_goals rfl

@[simp] theorem giveLink_tx (n : Notice) (k : HostLink) : (giveLink n k).tx = k.tx := by
  unfold giveLink; repeat' split
  all_goals rfl

@[simp] theorem giveLink_masks (n : Notice) (k : HostLink) : (giveLink n k).masks = k.masks := by
  unfold giveLink; repeat' split
  all_goals rfl

@[simp] theorem giveLink_errors (n : Notice) (k : HostLink) : (giveLink n k).errors = k.errors := by
  unfold giveLink; repeat' split
  all_goals rfl

@[simp] theorem giveLink_noise (n : Notice) (k : HostLink) : (giveLink n k).noise = k.noise := by
  unfold giveLink; repeat' split
  all_goals rfl

@[simp] theorem giveLink_busyRefusals (n : Notice) (k : HostLink) :
    (giveLink n k).busyRefusals = k.busyRefusals := by
  unfold giveLink; repeat' split
  all_goals rfl

@[simp] theorem giveLink_overruns (n : Notice) (k : HostLink) :
    (giveLink n k).overruns = k.overruns := by
  unfold giveLink; repeat' split
  all_goals rfl

@[simp] theorem giveLink_sent (n : Notice) (k : HostLink) : (giveLink n k).sent = k.sent := by
  unfold giveLink; repeat' split
  all_goals rfl

/-- Giving an event does not look at the receiver. -/
theorem giveLink_with_rx (n : Notice) (k : HostLink) (r : Receiver) :
    giveLink n { k with rx := r } = { giveLink n k with rx := r } := by
  unfold giveLink; repeat' split
  all_goals rfl

/-- Giving an event does not look at the reply list. -/
theorem giveLink_with_replies (n : Notice) (k : HostLink) (rs : List Reply) :
    giveLink n { k with replies := rs } = { giveLink n k with replies := rs } := by
  unfold giveLink; repeat' split
  all_goals rfl

@[simp] theorem linkAfter_nil (s : State) : linkAfter [] s = s.link := rfl

/-! ### The line state (R23 to R28, R33, R39, R42) -/

/-- What the guard monitor becomes when the line enters a state (R39). -/
def guardAfter (st : LineState) (now : Nat) (g : GuardMonitor) : GuardMonitor :=
  if st.guardActive then
    if st = .run ∧ g ≠ .inactive then .watching (now + ms 250) else g
  else .inactive

/-- What LAMP-G's cycle becomes when the line enters a state (R42). -/
def lampGAfter (st : LineState) (now : Nat) (l : Option LampPhase) : Option LampPhase :=
  if st = .hold ∨ st = .stopping then some (l.getD { lit := true, ends := now + 5 }) else none

/-- All that placing the line in a state does is in the Line Supervisor. -/
theorem placeLine_eq (st : LineState) (s : State) :
    placeLine st s =
      { s with
        sup :=
          { s.sup with
            line := st
            window := if st.keepAliveActive then s.sup.window else .none
            guard := guardAfter st s.now s.sup.guard
            holds := if st.guardActive then s.sup.holds else s.sup.holds.filter (· != .guard)
            lampG := lampGAfter st s.now s.sup.lampG } } := by
  cases st <;>
    simp [placeLine, moveLampG, moveGuard, closeWindow, LineState.keepAliveActive,
      LineState.guardActive, guardAfter, lampGAfter, eraseHold] <;>
    (cases s.sup.guard <;> cases s.sup.lampG <;> simp)

/-- Hold effective after the line state or the track has changed, and the link then (R27). -/
theorem refreshEffective_eq (s : State) :
    refreshEffective s =
      { s with
        sup := { s.sup with holdEffective := s.sup.line == .hold && s.track.strips.isEmpty }
        link :=
          if (s.sup.line == .hold && s.track.strips.isEmpty) && !s.sup.holdEffective then
            giveLink .effective s.link
          else s.link } := by
  unfold refreshEffective
  cases h : (s.sup.line == .hold && s.track.strips.isEmpty) <;> cases h' : s.sup.holdEffective <;>
    simp [give]

/-- The STATE event and hold effective, as one update. -/
theorem reportLine_eq (s : State) :
    reportLine s =
      { s with
        sup := { s.sup with holdEffective := s.sup.line == .hold && s.track.strips.isEmpty }
        link :=
          if (s.sup.line == .hold && s.track.strips.isEmpty) && !s.sup.holdEffective then
            giveLink .effective (giveLink (.state s.sup.line) s.link)
          else giveLink (.state s.sup.line) s.link } := by
  unfold reportLine
  rw [refreshEffective_eq]
  rfl

/-- What a change of the line state to another does: the Line Supervisor's part, one STATE event, and the
EFFECTIVE event when hold effective is gained (R23, R27). -/
theorem changeLine_eq (st : LineState) (s : State) (h : s.sup.line ≠ st) :
    changeLine st s = reportLine (placeLine st s) := by
  simp [changeLine, h]

@[simp] theorem changeLine_self (s : State) : changeLine s.sup.line s = s := by simp [changeLine]

/-- Refreshing hold effective changes the Line Supervisor and the link only. -/
theorem refreshEffective_only (s : State) :
    refreshEffective s = { s with sup := (refreshEffective s).sup, link := (refreshEffective s).link } := by
  rw [refreshEffective_eq]

@[simp] theorem refreshEffective_now (s : State) : (refreshEffective s).now = s.now := by
  rw [refreshEffective_only]
@[simp] theorem refreshEffective_powered (s : State) : (refreshEffective s).powered = s.powered := by
  rw [refreshEffective_only]
@[simp] theorem refreshEffective_track (s : State) : (refreshEffective s).track = s.track := by
  rw [refreshEffective_only]
@[simp] theorem refreshEffective_scanner (s : State) : (refreshEffective s).scanner = s.scanner := by
  rw [refreshEffective_only]
@[simp] theorem refreshEffective_grading (s : State) : (refreshEffective s).grading = s.grading := by
  rw [refreshEffective_only]
@[simp] theorem refreshEffective_saw (s : State) : (refreshEffective s).saw = s.saw := by
  rw [refreshEffective_only]
@[simp] theorem refreshEffective_heads (s : State) : (refreshEffective s).heads = s.heads := by
  rw [refreshEffective_only]
@[simp] theorem refreshEffective_sort (s : State) : (refreshEffective s).sort = s.sort := by
  rw [refreshEffective_only]
@[simp] theorem refreshEffective_bundles (s : State) : (refreshEffective s).bundles = s.bundles := by
  rw [refreshEffective_only]
@[simp] theorem refreshEffective_labels (s : State) : (refreshEffective s).labels = s.labels := by
  rw [refreshEffective_only]
@[simp] theorem refreshEffective_printer (s : State) : (refreshEffective s).printer = s.printer := by
  rw [refreshEffective_only]
@[simp] theorem refreshEffective_store (s : State) : (refreshEffective s).store = s.store := by
  rw [refreshEffective_only]
@[simp] theorem refreshEffective_races (s : State) : (refreshEffective s).races = s.races := by
  rw [refreshEffective_only]
@[simp] theorem refreshEffective_pending (s : State) : (refreshEffective s).pending = s.pending := by
  rw [refreshEffective_only]

/-- Placing the line changes the Line Supervisor only. -/
theorem placeLine_only (st : LineState) (s : State) :
    placeLine st s = { s with sup := (placeLine st s).sup } := by
  rw [placeLine_eq]

@[simp] theorem placeLine_now (st : LineState) (s : State) : (placeLine st s).now = s.now := by
  rw [placeLine_only]
@[simp] theorem placeLine_powered (st : LineState) (s : State) : (placeLine st s).powered = s.powered := by
  rw [placeLine_only]
@[simp] theorem placeLine_track (st : LineState) (s : State) : (placeLine st s).track = s.track := by
  rw [placeLine_only]
@[simp] theorem placeLine_scanner (st : LineState) (s : State) : (placeLine st s).scanner = s.scanner := by
  rw [placeLine_only]
@[simp] theorem placeLine_grading (st : LineState) (s : State) : (placeLine st s).grading = s.grading := by
  rw [placeLine_only]
@[simp] theorem placeLine_saw (st : LineState) (s : State) : (placeLine st s).saw = s.saw := by
  rw [placeLine_only]
@[simp] theorem placeLine_heads (st : LineState) (s : State) : (placeLine st s).heads = s.heads := by
  rw [placeLine_only]
@[simp] theorem placeLine_sort (st : LineState) (s : State) : (placeLine st s).sort = s.sort := by
  rw [placeLine_only]
@[simp] theorem placeLine_bundles (st : LineState) (s : State) : (placeLine st s).bundles = s.bundles := by
  rw [placeLine_only]
@[simp] theorem placeLine_labels (st : LineState) (s : State) : (placeLine st s).labels = s.labels := by
  rw [placeLine_only]
@[simp] theorem placeLine_printer (st : LineState) (s : State) : (placeLine st s).printer = s.printer := by
  rw [placeLine_only]
@[simp] theorem placeLine_link (st : LineState) (s : State) : (placeLine st s).link = s.link := by
  rw [placeLine_only]
@[simp] theorem placeLine_store (st : LineState) (s : State) : (placeLine st s).store = s.store := by
  rw [placeLine_only]
@[simp] theorem placeLine_races (st : LineState) (s : State) : (placeLine st s).races = s.races := by
  rw [placeLine_only]
@[simp] theorem placeLine_pending (st : LineState) (s : State) : (placeLine st s).pending = s.pending := by
  rw [placeLine_only]

/-- Reporting the line changes the Line Supervisor and the link only. -/
theorem reportLine_only (s : State) :
    reportLine s = { s with sup := (reportLine s).sup, link := (reportLine s).link } := by
  rw [reportLine_eq]

@[simp] theorem reportLine_now (s : State) : (reportLine s).now = s.now := by
  rw [reportLine_only]
@[simp] theorem reportLine_powered (s : State) : (reportLine s).powered = s.powered := by
  rw [reportLine_only]
@[simp] theorem reportLine_track (s : State) : (reportLine s).track = s.track := by
  rw [reportLine_only]
@[simp] theorem reportLine_scanner (s : State) : (reportLine s).scanner = s.scanner := by
  rw [reportLine_only]
@[simp] theorem reportLine_grading (s : State) : (reportLine s).grading = s.grading := by
  rw [reportLine_only]
@[simp] theorem reportLine_saw (s : State) : (reportLine s).saw = s.saw := by
  rw [reportLine_only]
@[simp] theorem reportLine_heads (s : State) : (reportLine s).heads = s.heads := by
  rw [reportLine_only]
@[simp] theorem reportLine_sort (s : State) : (reportLine s).sort = s.sort := by
  rw [reportLine_only]
@[simp] theorem reportLine_bundles (s : State) : (reportLine s).bundles = s.bundles := by
  rw [reportLine_only]
@[simp] theorem reportLine_labels (s : State) : (reportLine s).labels = s.labels := by
  rw [reportLine_only]
@[simp] theorem reportLine_printer (s : State) : (reportLine s).printer = s.printer := by
  rw [reportLine_only]
@[simp] theorem reportLine_store (s : State) : (reportLine s).store = s.store := by
  rw [reportLine_only]
@[simp] theorem reportLine_races (s : State) : (reportLine s).races = s.races := by
  rw [reportLine_only]
@[simp] theorem reportLine_pending (s : State) : (reportLine s).pending = s.pending := by
  rw [reportLine_only]

/-- Moving the line changes the Line Supervisor and the link only. -/
theorem changeLine_only (st : LineState) (s : State) :
    changeLine st s = { s with sup := (changeLine st s).sup, link := (changeLine st s).link } := by
  unfold changeLine
  split
  · rfl
  · rw [reportLine_only, placeLine_only]

@[simp] theorem changeLine_now (st : LineState) (s : State) : (changeLine st s).now = s.now := by
  rw [changeLine_only]
@[simp] theorem changeLine_powered (st : LineState) (s : State) : (changeLine st s).powered = s.powered := by
  rw [changeLine_only]
@[simp] theorem changeLine_track (st : LineState) (s : State) : (changeLine st s).track = s.track := by
  rw [changeLine_only]
@[simp] theorem changeLine_scanner (st : LineState) (s : State) : (changeLine st s).scanner = s.scanner := by
  rw [changeLine_only]
@[simp] theorem changeLine_grading (st : LineState) (s : State) : (changeLine st s).grading = s.grading := by
  rw [changeLine_only]
@[simp] theorem changeLine_saw (st : LineState) (s : State) : (changeLine st s).saw = s.saw := by
  rw [changeLine_only]
@[simp] theorem changeLine_heads (st : LineState) (s : State) : (changeLine st s).heads = s.heads := by
  rw [changeLine_only]
@[simp] theorem changeLine_sort (st : LineState) (s : State) : (changeLine st s).sort = s.sort := by
  rw [changeLine_only]
@[simp] theorem changeLine_bundles (st : LineState) (s : State) : (changeLine st s).bundles = s.bundles := by
  rw [changeLine_only]
@[simp] theorem changeLine_labels (st : LineState) (s : State) : (changeLine st s).labels = s.labels := by
  rw [changeLine_only]
@[simp] theorem changeLine_printer (st : LineState) (s : State) : (changeLine st s).printer = s.printer := by
  rw [changeLine_only]
@[simp] theorem changeLine_store (st : LineState) (s : State) : (changeLine st s).store = s.store := by
  rw [changeLine_only]
@[simp] theorem changeLine_races (st : LineState) (s : State) : (changeLine st s).races = s.races := by
  rw [changeLine_only]
@[simp] theorem changeLine_pending (st : LineState) (s : State) : (changeLine st s).pending = s.pending := by
  rw [changeLine_only]

/-! ### The hold-source set (R25, R26) -/

/-- Adding a hold source changes the Line Supervisor and the link only. -/
theorem addHold_only (h : HoldSource) (s : State) :
    addHold h s = { s with sup := (addHold h s).sup, link := (addHold h s).link } := by
  unfold addHold
  split
  · rfl
  · dsimp only
    split
    · rw [changeLine_only]
      rfl
    · rfl

@[simp] theorem addHold_now (h : HoldSource) (s : State) : (addHold h s).now = s.now := by
  rw [addHold_only]
@[simp] theorem addHold_powered (h : HoldSource) (s : State) : (addHold h s).powered = s.powered := by
  rw [addHold_only]
@[simp] theorem addHold_track (h : HoldSource) (s : State) : (addHold h s).track = s.track := by
  rw [addHold_only]
@[simp] theorem addHold_scanner (h : HoldSource) (s : State) : (addHold h s).scanner = s.scanner := by
  rw [addHold_only]
@[simp] theorem addHold_grading (h : HoldSource) (s : State) : (addHold h s).grading = s.grading := by
  rw [addHold_only]
@[simp] theorem addHold_saw (h : HoldSource) (s : State) : (addHold h s).saw = s.saw := by
  rw [addHold_only]
@[simp] theorem addHold_heads (h : HoldSource) (s : State) : (addHold h s).heads = s.heads := by
  rw [addHold_only]
@[simp] theorem addHold_sort (h : HoldSource) (s : State) : (addHold h s).sort = s.sort := by
  rw [addHold_only]
@[simp] theorem addHold_bundles (h : HoldSource) (s : State) : (addHold h s).bundles = s.bundles := by
  rw [addHold_only]
@[simp] theorem addHold_labels (h : HoldSource) (s : State) : (addHold h s).labels = s.labels := by
  rw [addHold_only]
@[simp] theorem addHold_printer (h : HoldSource) (s : State) : (addHold h s).printer = s.printer := by
  rw [addHold_only]
@[simp] theorem addHold_store (h : HoldSource) (s : State) : (addHold h s).store = s.store := by
  rw [addHold_only]
@[simp] theorem addHold_races (h : HoldSource) (s : State) : (addHold h s).races = s.races := by
  rw [addHold_only]
@[simp] theorem addHold_pending (h : HoldSource) (s : State) : (addHold h s).pending = s.pending := by
  rw [addHold_only]

/-- Removing a hold source changes the Line Supervisor and the link only. -/
theorem removeHold_only (h : HoldSource) (s : State) :
    removeHold h s = { s with sup := (removeHold h s).sup, link := (removeHold h s).link } := by
  unfold removeHold
  split
  · dsimp only
    split
    · rw [changeLine_only]
      rfl
    · rfl
  · rfl

@[simp] theorem removeHold_now (h : HoldSource) (s : State) : (removeHold h s).now = s.now := by
  rw [removeHold_only]
@[simp] theorem removeHold_powered (h : HoldSource) (s : State) : (removeHold h s).powered = s.powered := by
  rw [removeHold_only]
@[simp] theorem removeHold_track (h : HoldSource) (s : State) : (removeHold h s).track = s.track := by
  rw [removeHold_only]
@[simp] theorem removeHold_scanner (h : HoldSource) (s : State) : (removeHold h s).scanner = s.scanner := by
  rw [removeHold_only]
@[simp] theorem removeHold_grading (h : HoldSource) (s : State) : (removeHold h s).grading = s.grading := by
  rw [removeHold_only]
@[simp] theorem removeHold_saw (h : HoldSource) (s : State) : (removeHold h s).saw = s.saw := by
  rw [removeHold_only]
@[simp] theorem removeHold_heads (h : HoldSource) (s : State) : (removeHold h s).heads = s.heads := by
  rw [removeHold_only]
@[simp] theorem removeHold_sort (h : HoldSource) (s : State) : (removeHold h s).sort = s.sort := by
  rw [removeHold_only]
@[simp] theorem removeHold_bundles (h : HoldSource) (s : State) : (removeHold h s).bundles = s.bundles := by
  rw [removeHold_only]
@[simp] theorem removeHold_labels (h : HoldSource) (s : State) : (removeHold h s).labels = s.labels := by
  rw [removeHold_only]
@[simp] theorem removeHold_printer (h : HoldSource) (s : State) : (removeHold h s).printer = s.printer := by
  rw [removeHold_only]
@[simp] theorem removeHold_store (h : HoldSource) (s : State) : (removeHold h s).store = s.store := by
  rw [removeHold_only]
@[simp] theorem removeHold_races (h : HoldSource) (s : State) : (removeHold h s).races = s.races := by
  rw [removeHold_only]
@[simp] theorem removeHold_pending (h : HoldSource) (s : State) : (removeHold h s).pending = s.pending := by
  rw [removeHold_only]

/-! ### The end of every command (R43, R183) -/

/-- LAMP-A's cycle after a command (R43). -/
def lampAAfter (s : State) : Option LampPhase :=
  if s.attention then some (s.sup.lampA.getD { lit := true, ends := s.now + ms 250 }) else none

/-- All that refreshing LAMP-A does is in LAMP-A's cycle. -/
theorem refreshLampA_eq (s : State) :
    refreshLampA s = { s with sup := { s.sup with lampA := lampAAfter s } } := by
  unfold refreshLampA lampAAfter
  split
  · cases h : s.sup.lampA with
    | none => simp
    | some p =>
      simp only [Option.isSome_some, if_true, Option.getD_some]
      rw [← h]
  · rfl

/-- Refreshing LAMP-A changes the Line Supervisor only. -/
theorem refreshLampA_only (s : State) :
    refreshLampA s = { s with sup := (refreshLampA s).sup } := by
  rw [refreshLampA_eq]

@[simp] theorem refreshLampA_now (s : State) : (refreshLampA s).now = s.now := by
  rw [refreshLampA_only]
@[simp] theorem refreshLampA_powered (s : State) : (refreshLampA s).powered = s.powered := by
  rw [refreshLampA_only]
@[simp] theorem refreshLampA_track (s : State) : (refreshLampA s).track = s.track := by
  rw [refreshLampA_only]
@[simp] theorem refreshLampA_scanner (s : State) : (refreshLampA s).scanner = s.scanner := by
  rw [refreshLampA_only]
@[simp] theorem refreshLampA_grading (s : State) : (refreshLampA s).grading = s.grading := by
  rw [refreshLampA_only]
@[simp] theorem refreshLampA_saw (s : State) : (refreshLampA s).saw = s.saw := by
  rw [refreshLampA_only]
@[simp] theorem refreshLampA_heads (s : State) : (refreshLampA s).heads = s.heads := by
  rw [refreshLampA_only]
@[simp] theorem refreshLampA_sort (s : State) : (refreshLampA s).sort = s.sort := by
  rw [refreshLampA_only]
@[simp] theorem refreshLampA_bundles (s : State) : (refreshLampA s).bundles = s.bundles := by
  rw [refreshLampA_only]
@[simp] theorem refreshLampA_labels (s : State) : (refreshLampA s).labels = s.labels := by
  rw [refreshLampA_only]
@[simp] theorem refreshLampA_printer (s : State) : (refreshLampA s).printer = s.printer := by
  rw [refreshLampA_only]
@[simp] theorem refreshLampA_link (s : State) : (refreshLampA s).link = s.link := by
  rw [refreshLampA_only]
@[simp] theorem refreshLampA_store (s : State) : (refreshLampA s).store = s.store := by
  rw [refreshLampA_only]
@[simp] theorem refreshLampA_races (s : State) : (refreshLampA s).races = s.races := by
  rw [refreshLampA_only]
@[simp] theorem refreshLampA_pending (s : State) : (refreshLampA s).pending = s.pending := by
  rw [refreshLampA_only]

/-- Sending a reply changes the link only. -/
theorem sendReply_only (s : State) :
    sendReply s = { s with link := (sendReply s).link } := by
  unfold sendReply
  split <;> rfl

@[simp] theorem sendReply_now (s : State) : (sendReply s).now = s.now := by
  rw [sendReply_only]
@[simp] theorem sendReply_powered (s : State) : (sendReply s).powered = s.powered := by
  rw [sendReply_only]
@[simp] theorem sendReply_track (s : State) : (sendReply s).track = s.track := by
  rw [sendReply_only]
@[simp] theorem sendReply_sup (s : State) : (sendReply s).sup = s.sup := by
  rw [sendReply_only]
@[simp] theorem sendReply_scanner (s : State) : (sendReply s).scanner = s.scanner := by
  rw [sendReply_only]
@[simp] theorem sendReply_grading (s : State) : (sendReply s).grading = s.grading := by
  rw [sendReply_only]
@[simp] theorem sendReply_saw (s : State) : (sendReply s).saw = s.saw := by
  rw [sendReply_only]
@[simp] theorem sendReply_heads (s : State) : (sendReply s).heads = s.heads := by
  rw [sendReply_only]
@[simp] theorem sendReply_sort (s : State) : (sendReply s).sort = s.sort := by
  rw [sendReply_only]
@[simp] theorem sendReply_bundles (s : State) : (sendReply s).bundles = s.bundles := by
  rw [sendReply_only]
@[simp] theorem sendReply_labels (s : State) : (sendReply s).labels = s.labels := by
  rw [sendReply_only]
@[simp] theorem sendReply_printer (s : State) : (sendReply s).printer = s.printer := by
  rw [sendReply_only]
@[simp] theorem sendReply_store (s : State) : (sendReply s).store = s.store := by
  rw [sendReply_only]
@[simp] theorem sendReply_races (s : State) : (sendReply s).races = s.races := by
  rw [sendReply_only]
@[simp] theorem sendReply_pending (s : State) : (sendReply s).pending = s.pending := by
  rw [sendReply_only]

/-- Sending a notice changes the link only. -/
theorem sendNotice_only (s : State) :
    sendNotice s = { s with link := (sendNotice s).link } := by
  unfold sendNotice
  split <;> rfl

@[simp] theorem sendNotice_now (s : State) : (sendNotice s).now = s.now := by
  rw [sendNotice_only]
@[simp] theorem sendNotice_powered (s : State) : (sendNotice s).powered = s.powered := by
  rw [sendNotice_only]
@[simp] theorem sendNotice_track (s : State) : (sendNotice s).track = s.track := by
  rw [sendNotice_only]
@[simp] theorem sendNotice_sup (s : State) : (sendNotice s).sup = s.sup := by
  rw [sendNotice_only]
@[simp] theorem sendNotice_scanner (s : State) : (sendNotice s).scanner = s.scanner := by
  rw [sendNotice_only]
@[simp] theorem sendNotice_grading (s : State) : (sendNotice s).grading = s.grading := by
  rw [sendNotice_only]
@[simp] theorem sendNotice_saw (s : State) : (sendNotice s).saw = s.saw := by
  rw [sendNotice_only]
@[simp] theorem sendNotice_heads (s : State) : (sendNotice s).heads = s.heads := by
  rw [sendNotice_only]
@[simp] theorem sendNotice_sort (s : State) : (sendNotice s).sort = s.sort := by
  rw [sendNotice_only]
@[simp] theorem sendNotice_bundles (s : State) : (sendNotice s).bundles = s.bundles := by
  rw [sendNotice_only]
@[simp] theorem sendNotice_labels (s : State) : (sendNotice s).labels = s.labels := by
  rw [sendNotice_only]
@[simp] theorem sendNotice_printer (s : State) : (sendNotice s).printer = s.printer := by
  rw [sendNotice_only]
@[simp] theorem sendNotice_store (s : State) : (sendNotice s).store = s.store := by
  rw [sendNotice_only]
@[simp] theorem sendNotice_races (s : State) : (sendNotice s).races = s.races := by
  rw [sendNotice_only]
@[simp] theorem sendNotice_pending (s : State) : (sendNotice s).pending = s.pending := by
  rw [sendNotice_only]

/-- Sending the next frame changes the link only. -/
theorem sendNext_only (s : State) :
    sendNext s = { s with link := (sendNext s).link } := by
  unfold sendNext
  split
  · rfl
  · split
    · rw [sendNotice_only]
    · rw [sendReply_only]

@[simp] theorem sendNext_now (s : State) : (sendNext s).now = s.now := by
  rw [sendNext_only]
@[simp] theorem sendNext_powered (s : State) : (sendNext s).powered = s.powered := by
  rw [sendNext_only]
@[simp] theorem sendNext_track (s : State) : (sendNext s).track = s.track := by
  rw [sendNext_only]
@[simp] theorem sendNext_sup (s : State) : (sendNext s).sup = s.sup := by
  rw [sendNext_only]
@[simp] theorem sendNext_scanner (s : State) : (sendNext s).scanner = s.scanner := by
  rw [sendNext_only]
@[simp] theorem sendNext_grading (s : State) : (sendNext s).grading = s.grading := by
  rw [sendNext_only]
@[simp] theorem sendNext_saw (s : State) : (sendNext s).saw = s.saw := by
  rw [sendNext_only]
@[simp] theorem sendNext_heads (s : State) : (sendNext s).heads = s.heads := by
  rw [sendNext_only]
@[simp] theorem sendNext_sort (s : State) : (sendNext s).sort = s.sort := by
  rw [sendNext_only]
@[simp] theorem sendNext_bundles (s : State) : (sendNext s).bundles = s.bundles := by
  rw [sendNext_only]
@[simp] theorem sendNext_labels (s : State) : (sendNext s).labels = s.labels := by
  rw [sendNext_only]
@[simp] theorem sendNext_printer (s : State) : (sendNext s).printer = s.printer := by
  rw [sendNext_only]
@[simp] theorem sendNext_store (s : State) : (sendNext s).store = s.store := by
  rw [sendNext_only]
@[simp] theorem sendNext_races (s : State) : (sendNext s).races = s.races := by
  rw [sendNext_only]
@[simp] theorem sendNext_pending (s : State) : (sendNext s).pending = s.pending := by
  rw [sendNext_only]

/-- The arbiter changes the link and the count of races only. -/
theorem arbitrate_only (s : State) :
    arbitrate s = { s with link := (arbitrate s).link, races := (arbitrate s).races } := by
  unfold arbitrate
  split
  · split
    · dsimp only
      split
      · rw [sendReply_only]
      · rw [sendNotice_only]
    · rw [sendNext_only]
  · rfl

@[simp] theorem arbitrate_now (s : State) : (arbitrate s).now = s.now := by
  rw [arbitrate_only]
@[simp] theorem arbitrate_powered (s : State) : (arbitrate s).powered = s.powered := by
  rw [arbitrate_only]
@[simp] theorem arbitrate_track (s : State) : (arbitrate s).track = s.track := by
  rw [arbitrate_only]
@[simp] theorem arbitrate_sup (s : State) : (arbitrate s).sup = s.sup := by
  rw [arbitrate_only]
@[simp] theorem arbitrate_scanner (s : State) : (arbitrate s).scanner = s.scanner := by
  rw [arbitrate_only]
@[simp] theorem arbitrate_grading (s : State) : (arbitrate s).grading = s.grading := by
  rw [arbitrate_only]
@[simp] theorem arbitrate_saw (s : State) : (arbitrate s).saw = s.saw := by
  rw [arbitrate_only]
@[simp] theorem arbitrate_heads (s : State) : (arbitrate s).heads = s.heads := by
  rw [arbitrate_only]
@[simp] theorem arbitrate_sort (s : State) : (arbitrate s).sort = s.sort := by
  rw [arbitrate_only]
@[simp] theorem arbitrate_bundles (s : State) : (arbitrate s).bundles = s.bundles := by
  rw [arbitrate_only]
@[simp] theorem arbitrate_labels (s : State) : (arbitrate s).labels = s.labels := by
  rw [arbitrate_only]
@[simp] theorem arbitrate_printer (s : State) : (arbitrate s).printer = s.printer := by
  rw [arbitrate_only]
@[simp] theorem arbitrate_store (s : State) : (arbitrate s).store = s.store := by
  rw [arbitrate_only]
@[simp] theorem arbitrate_pending (s : State) : (arbitrate s).pending = s.pending := by
  rw [arbitrate_only]

/-- The end of a command changes LAMP-A, the link and the count of races only. -/
theorem settle_only (s : State) :
    settle s = { s with sup := (settle s).sup, link := (settle s).link, races := (settle s).races } := by
  unfold settle
  rw [arbitrate_only, refreshLampA_only]

@[simp] theorem settle_now (s : State) : (settle s).now = s.now := by
  rw [settle_only]
@[simp] theorem settle_powered (s : State) : (settle s).powered = s.powered := by
  rw [settle_only]
@[simp] theorem settle_track (s : State) : (settle s).track = s.track := by
  rw [settle_only]
@[simp] theorem settle_scanner (s : State) : (settle s).scanner = s.scanner := by
  rw [settle_only]
@[simp] theorem settle_grading (s : State) : (settle s).grading = s.grading := by
  rw [settle_only]
@[simp] theorem settle_saw (s : State) : (settle s).saw = s.saw := by
  rw [settle_only]
@[simp] theorem settle_heads (s : State) : (settle s).heads = s.heads := by
  rw [settle_only]
@[simp] theorem settle_sort (s : State) : (settle s).sort = s.sort := by
  rw [settle_only]
@[simp] theorem settle_bundles (s : State) : (settle s).bundles = s.bundles := by
  rw [settle_only]
@[simp] theorem settle_labels (s : State) : (settle s).labels = s.labels := by
  rw [settle_only]
@[simp] theorem settle_printer (s : State) : (settle s).printer = s.printer := by
  rw [settle_only]
@[simp] theorem settle_store (s : State) : (settle s).store = s.store := by
  rw [settle_only]
@[simp] theorem settle_pending (s : State) : (settle s).pending = s.pending := by
  rw [settle_only]

@[simp] theorem settle_sup (s : State) : (settle s).sup = { s.sup with lampA := lampAAfter s } := by
  unfold settle
  rw [arbitrate_sup, refreshLampA_eq]

/-- With a frame in transmission, or the restart due, the arbiter does nothing (R183, R194). -/
theorem arbitrate_busy (s : State) (h : s.link.tx ≠ .free ∨ s.store.restart = .due) :
    arbitrate s = s := by
  unfold arbitrate
  rcases h with h | h <;> simp [h]

end Sys2Proof.Machine
end

