-- ==== Sys2Proof/Laws/PerInstr.lean ====
section
/-! SUPPORT. Laws/PerInstr.lean: what holds of every command as syntax, a lemma for each constructor: a
command read from a host frame carries the frame's body and a kind of its own, and a command is well
formed exactly when its body fits a frame and its kind fits its row (R179, R182). -/

namespace Sys2Proof.Laws

/-- The statement about one command. -/
def operands.Statement (c : Instr) : Prop :=
  (∀ kind tag body, commandOfFrame kind tag body = c → c.body = some body ∧ c.kindFits = true) ∧
    (c.wellFormed = true ↔ (∀ b, c.body = some b → b.length ≤ 250) ∧ c.kindFits = true)

/-- A command read from a frame carries the frame's body. -/
theorem body_commandOfFrame (kind tag : Byte) (body : List Byte) :
    (commandOfFrame kind tag body).body = some body := by
  unfold commandOfFrame; split <;> rfl

/-- A command read from a frame has a kind that fits its row. -/
theorem kindFits_commandOfFrame (kind tag : Byte) (body : List Byte) :
    (commandOfFrame kind tag body).kindFits = true := by
  unfold commandOfFrame
  split <;> first | rfl | (simp_all [Instr.kindFits, namesRequest, requestKinds])

/-- A command is well formed exactly when its body and its kind fit. -/
theorem wellFormed_iff (c : Instr) :
    c.wellFormed = true ↔ (∀ b, c.body = some b → b.length ≤ 250) ∧ c.kindFits = true := by
  unfold Instr.wellFormed
  cases c.body <;> simp [bodyFits]

/-- The statement holds of every command. -/
theorem operands_all (c : Instr) : operands.Statement c := by
  refine ⟨fun kind tag body h => ?_, wellFormed_iff c⟩
  subst h
  exact ⟨body_commandOfFrame kind tag body, kindFits_commandOfFrame kind tag body⟩

theorem operands.encoderCount (input : EncoderInput) :
    operands.Statement (.encoderCount input) := operands_all _
theorem operands.eyeInputChange (eye : Eye) (blocked : Bool) :
    operands.Statement (.eyeInputChange eye blocked) := operands_all _
theorem operands.speedIntervalEnd : operands.Statement .speedIntervalEnd := operands_all _
theorem operands.keepaliveWindowExpiry : operands.Statement .keepaliveWindowExpiry := operands_all _
theorem operands.guardInputChange (high : Bool) :
    operands.Statement (.guardInputChange high) := operands_all _
theorem operands.guardEdgeAccepted : operands.Statement .guardEdgeAccepted := operands_all _
theorem operands.guardWindowExpiry : operands.Statement .guardWindowExpiry := operands_all _
theorem operands.lampABlink : operands.Statement .lampABlink := operands_all _
theorem operands.lampGDim : operands.Statement .lampGDim := operands_all _
theorem operands.scannerStart (strip : StripNo) :
    operands.Statement (.scannerStart strip) := operands_all _
theorem operands.defect (kind : Byte) (position : BitVec 16) (extent : BitVec 16) (severity : Byte) :
    operands.Statement (.defect kind position extent severity) := operands_all _
theorem operands.scannerEnd (strip : StripNo) (count : Byte) :
    operands.Statement (.scannerEnd strip count) := operands_all _
theorem operands.fieldFrameDiscarded (line : FieldLine) :
    operands.Statement (.fieldFrameDiscarded line) := operands_all _
theorem operands.fieldGapTimeout (line : FieldLine) :
    operands.Statement (.fieldGapTimeout line) := operands_all _
theorem operands.evaluationCompletion (evaluation : Nat) :
    operands.Statement (.evaluationCompletion evaluation) := operands_all _
theorem operands.sawDone (strip : StripNo) : operands.Statement (.sawDone strip) := operands_all _
theorem operands.sawFault (strip : StripNo) (code : Byte) :
    operands.Statement (.sawFault strip code) := operands_all _
theorem operands.conversionCompletion (result : ConversionResult) :
    operands.Statement (.conversionCompletion result) := operands_all _
theorem operands.temperatureTimer : operands.Statement .temperatureTimer := operands_all _
theorem operands.temperatureStale : operands.Statement .temperatureStale := operands_all _
theorem operands.stepText : operands.Statement .stepText := operands_all _
theorem operands.stepLoad : operands.Statement .stepLoad := operands_all _
theorem operands.stepDigits : operands.Statement .stepDigits := operands_all _
theorem operands.stepForce : operands.Statement .stepForce := operands_all _
theorem operands.stepMark : operands.Statement .stepMark := operands_all _
theorem operands.stepPut : operands.Statement .stepPut := operands_all _
theorem operands.stepFill : operands.Statement .stepFill := operands_all _
theorem operands.stepSetchar : operands.Statement .stepSetchar := operands_all _
theorem operands.stepCopy : operands.Statement .stepCopy := operands_all _
theorem operands.stepBlankzero : operands.Statement .stepBlankzero := operands_all _
theorem operands.stepLine : operands.Statement .stepLine := operands_all _
theorem operands.stepEnd : operands.Statement .stepEnd := operands_all _
theorem operands.printerReady : operands.Statement .printerReady := operands_all _
theorem operands.printed (bundle : BitVec 32) :
    operands.Statement (.printed bundle) := operands_all _
theorem operands.applied (bundle : BitVec 32) :
    operands.Statement (.applied bundle) := operands_all _
theorem operands.printerFault (bundle : BitVec 32) (code : Byte) :
    operands.Statement (.printerFault bundle code) := operands_all _
theorem operands.applyTimeout : operands.Statement .applyTimeout := operands_all _
theorem operands.status (tag : Byte) (body : List Byte) :
    operands.Statement (.status tag body) := operands_all _
theorem operands.run (tag : Byte) (body : List Byte) :
    operands.Statement (.run tag body) := operands_all _
theorem operands.stop (tag : Byte) (body : List Byte) :
    operands.Statement (.stop tag body) := operands_all _
theorem operands.hold (tag : Byte) (body : List Byte) :
    operands.Statement (.hold tag body) := operands_all _
theorem operands.release (tag : Byte) (body : List Byte) :
    operands.Statement (.release tag body) := operands_all _
theorem operands.resume (tag : Byte) (body : List Byte) :
    operands.Statement (.resume tag body) := operands_all _
theorem operands.keepalive (tag : Byte) (body : List Byte) :
    operands.Statement (.keepalive tag body) := operands_all _
theorem operands.alarmClear (tag : Byte) (body : List Byte) :
    operands.Statement (.alarmClear tag body) := operands_all _
theorem operands.trackRead (tag : Byte) (body : List Byte) :
    operands.Statement (.trackRead tag body) := operands_all _
theorem operands.scannerRead (tag : Byte) (body : List Byte) :
    operands.Statement (.scannerRead tag body) := operands_all _
theorem operands.gradingRead (tag : Byte) (body : List Byte) :
    operands.Statement (.gradingRead tag body) := operands_all _
theorem operands.sawRead (tag : Byte) (body : List Byte) :
    operands.Statement (.sawRead tag body) := operands_all _
theorem operands.headRead (tag : Byte) (body : List Byte) :
    operands.Statement (.headRead tag body) := operands_all _
theorem operands.headClear (tag : Byte) (body : List Byte) :
    operands.Statement (.headClear tag body) := operands_all _
theorem operands.headCheck (tag : Byte) (body : List Byte) :
    operands.Statement (.headCheck tag body) := operands_all _
theorem operands.bayRead (tag : Byte) (body : List Byte) :
    operands.Statement (.bayRead tag body) := operands_all _
theorem operands.baySet (tag : Byte) (body : List Byte) :
    operands.Statement (.baySet tag body) := operands_all _
theorem operands.binEmptied (tag : Byte) (body : List Byte) :
    operands.Statement (.binEmptied tag body) := operands_all _
theorem operands.bundleRead (tag : Byte) (body : List Byte) :
    operands.Statement (.bundleRead tag body) := operands_all _
theorem operands.bayClose (tag : Byte) (body : List Byte) :
    operands.Statement (.bayClose tag body) := operands_all _
theorem operands.lotSet (tag : Byte) (body : List Byte) :
    operands.Statement (.lotSet tag body) := operands_all _
theorem operands.nextNumber (tag : Byte) (body : List Byte) :
    operands.Statement (.nextNumber tag body) := operands_all _
theorem operands.templateWrite (tag : Byte) (body : List Byte) :
    operands.Statement (.templateWrite tag body) := operands_all _
theorem operands.labelRead (tag : Byte) (body : List Byte) :
    operands.Statement (.labelRead tag body) := operands_all _
theorem operands.printerOffline (tag : Byte) (body : List Byte) :
    operands.Statement (.printerOffline tag body) := operands_all _
theorem operands.printerOnline (tag : Byte) (body : List Byte) :
    operands.Statement (.printerOnline tag body) := operands_all _
theorem operands.reprint (tag : Byte) (body : List Byte) :
    operands.Statement (.reprint tag body) := operands_all _
theorem operands.releaseUnlabelled (tag : Byte) (body : List Byte) :
    operands.Statement (.releaseUnlabelled tag body) := operands_all _
theorem operands.printerRead (tag : Byte) (body : List Byte) :
    operands.Statement (.printerRead tag body) := operands_all _
theorem operands.noticeMask (tag : Byte) (body : List Byte) :
    operands.Statement (.noticeMask tag body) := operands_all _
theorem operands.linkRead (tag : Byte) (body : List Byte) :
    operands.Statement (.linkRead tag body) := operands_all _
theorem operands.configRead (tag : Byte) (body : List Byte) :
    operands.Statement (.configRead tag body) := operands_all _
theorem operands.configWrite (tag : Byte) (body : List Byte) :
    operands.Statement (.configWrite tag body) := operands_all _
theorem operands.save (tag : Byte) (body : List Byte) :
    operands.Statement (.save tag body) := operands_all _
theorem operands.saveCompletion (readBack : BitVec 16) :
    operands.Statement (.saveCompletion readBack) := operands_all _
theorem operands.restart (tag : Byte) (body : List Byte) :
    operands.Statement (.restart tag body) := operands_all _
theorem operands.restartExecute : operands.Statement .restartExecute := operands_all _
theorem operands.hardwareReset (source : ResetSource) (baud : Baud) (fsel : FailSafeMode) :
    operands.Statement (.hardwareReset source baud fsel) := operands_all _
theorem operands.unknownRequest (kind : Byte) (tag : Byte) (body : List Byte) :
    operands.Statement (.unknownRequest kind tag body) := operands_all _
theorem operands.hostFrameDiscarded : operands.Statement .hostFrameDiscarded := operands_all _
theorem operands.hostGapTimeout : operands.Statement .hostGapTimeout := operands_all _
theorem operands.transmitComplete : operands.Statement .transmitComplete := operands_all _
theorem operands.hostByteArrival (byte : Byte) :
    operands.Statement (.hostByteArrival byte) := operands_all _
theorem operands.fieldByteArrival (line : FieldLine) (byte : Byte) :
    operands.Statement (.fieldByteArrival line byte) := operands_all _
theorem operands.overrun : operands.Statement .overrun := operands_all _
theorem operands.badstep : operands.Statement .badstep := operands_all _
theorem operands.lossOfPower : operands.Statement .lossOfPower := operands_all _

end Sys2Proof.Laws
end

