-- ==== Sys2Proof/Laws/Requests.lean ====
section
/-! SUPPORT. Laws/Requests.lean: what taking a good host frame can do, said once, and the one meaning
behind the 36 rows of requests (R181, R182). -/

namespace Sys2Proof.Machine

/-- With supply a command settles after its effect. -/
theorem live_powered (s : State) (f : State → State) (h : s.powered = true) :
    live s f = .next (settle (f s)) := by simp [live, h]

/-- With no request in hand a frame is answered by its owner. -/
theorem takeFrame_listening (kind tag : Byte) (f : State → Served) (s : State)
    (h : s.requestInHand = false) : takeFrame kind tag f s = putReply kind tag (f s) := by
  simp [takeFrame, h]

/-- With a request in hand a frame is turned away. -/
theorem takeFrame_inHand (kind tag : Byte) (f : State → Served) (s : State)
    (h : s.requestInHand = true) : takeFrame kind tag f s = turnAway kind tag s := by
  simp [takeFrame, h]

/-- An answer that changes nothing. -/
theorem putReply_same (kind tag : Byte) (a : Answer) (s : State) :
    putReply kind tag (s, a) = answered kind tag a s := rfl

/-- Once asked, a restart that is due stays due and any other is pending (R183). -/
theorem RestartStage.asked_eq (r : RestartStage) :
    r.asked = if r = .due then .due else .pending := by
  cases r <;> rfl

@[simp] theorem RestartStage.asked_due : RestartStage.due.asked = .due := rfl
@[simp] theorem RestartStage.asked_none : RestartStage.none.asked = .pending := rfl
@[simp] theorem RestartStage.asked_pending : RestartStage.pending.asked = .pending := rfl

/-- Asking for a restart never leaves none asked for. -/
theorem RestartStage.asked_ne_none (r : RestartStage) : r.asked ≠ .none := by
  cases r <;> simp

/-- The command of a kind's row, whichever kind it is, is the frame handed to the kind's owner. -/
theorem exec_commandOfFrame (kind tag : Byte) (body : List Byte) (s : State) :
    exec (commandOfFrame kind tag body) s = live s (takeFrame kind tag (serveKind kind body)) := by
  unfold commandOfFrame
  split <;>
    first
    | rfl
    | (rename_i h
       have hk : kind = BitVec.ofNat 8 kind.toNat := by simp
       rw [h] at hk
       subst hk
       rfl)

end Sys2Proof.Machine
end

