-- ==== Sys2Proof/Laws/Track.lean ====
section
/-! SUPPORT. Laws/Track.lean: what the Track Unit's own tests can do, said once, and that a completion
which is not of the work in hand does nothing. -/

namespace Sys2Proof.Machine

/-- The JOINED test of the record in admission changes the records alone (R7). -/
theorem markJoined_only (s : State) :
    markJoined s = { s with track := { s.track with strips := (markJoined s).track.strips } } := by
  unfold markJoined
  split <;> rfl

/-- A record that is JOINED stays as it is, and one whose moment has not come and that does not wait
stays as it is (R7). -/
theorem testJoined_self (s : State) (r : Strip)
    (h : r.joined = true ∨ (joinReached s r = false ∧ r.joinWaits = false)) : testJoined s r = r := by
  unfold testJoined
  rcases h with h | ⟨h₁, h₂⟩ <;> simp [*]

/-- An event's point is at hand exactly when the record's edge stands at or beyond it, it was not raised
before, and, for a phantom, the point lies beyond where it was made (R12). -/
theorem eventDue_iff (s : State) (r : Strip) (e : PassEvent) :
    eventDue s r e = true ↔
      e ∉ r.raised ∧ ∃ (p : Nat) (x : Int),
        eventPoint s.cfg.line r e = some p ∧ r.edge e s.track.travel = some x ∧ (p : Int) ≤ x ∧
          ∀ c, r.createdAt = some c → c < p := by
  unfold eventDue
  cases eventPoint s.cfg.line r e <;> cases r.edge e s.track.travel <;> cases r.createdAt <;> simp

/-- A record is clear of a point exactly when its trailing edge is known and beyond it (R9). -/
theorem Strip.clearOf_iff (r : Strip) (p : Nat) (t : Travel) :
    r.clearOf p t = true ↔ ∃ n, r.length = some n ∧ (p : Int) < r.leading t - n := by
  unfold Strip.clearOf Strip.trailing
  cases r.length <;> simp

/-- A record has passed a head point exactly when its passing there has been taken or its trailing edge is
known and beyond the point (R98, R99). -/
theorem passedHead_iff (e : PassEvent) (p : Nat) (r : Strip) (s : State) :
    passedHead e p r s = true ↔
      e ∈ r.raised ∨ ∃ n, r.length = some n ∧ (p : Int) < r.leading s.track.travel - n := by
  simp [passedHead, Strip.clearOf_iff]

/-- What the moulder slice can do: nothing for a phantom, a count for a record that has passed Pmo, and
otherwise the requests of one slice (R98). -/
theorem moulderSlice_cases (r : Strip) (s : State) :
    (r.isPhantom = true ∧ moulderSlice r s = s) ∨
      (r.isPhantom = false ∧ passedHead .pmoTrail s.cfg.line.pmo r s = true ∧
        moulderSlice r s = skipSlice s) ∨
      (r.isPhantom = false ∧ passedHead .pmoTrail s.cfg.line.pmo r s = false ∧
        moulderSlice r s =
          placeRequests
            ((s.moulderTurn.take 2).map (fun k => .moulder r.number (moulderHead k))) s) := by
  unfold moulderSlice
  cases r.isPhantom <;> cases passedHead .pmoTrail s.cfg.line.pmo r s <;> simp

/-- What the end-match slice can do (R99). -/
theorem endMatchSlice_cases (r : Strip) (s : State) :
    (r.isPhantom = true ∧ endMatchSlice r s = s) ∨
      (r.isPhantom = false ∧ passedHead .pemTrail s.cfg.line.pem r s = true ∧
        endMatchSlice r s = skipSlice s) ∨
      (r.isPhantom = false ∧ passedHead .pemTrail s.cfg.line.pem r s = false ∧
        endMatchSlice r s =
          placeRequests ((endHeads.filter s.enabled).map (fun n => .endMatch r.number n)) s) := by
  unfold endMatchSlice
  cases r.isPhantom <;> cases passedHead .pemTrail s.cfg.line.pem r s <;> simp

/-- What the withdrawal of an entry can do: take it from the queue, counted, or nothing where there is none
(R64). -/
theorem withdrawEntry_cases (n : StripNo) (s : State) :
    (n ∈ s.grading.queue ∧
        withdrawEntry n s =
          { s with
            grading :=
              { s.grading with
                queue := s.grading.queue.filter (fun m => m != n)
                withdrawn := sat16 s.grading.withdrawn } }) ∨
      (n ∉ s.grading.queue ∧ withdrawEntry n s = s) := by
  unfold withdrawEntry
  by_cases h : n ∈ s.grading.queue <;> simp [h]

/-- A withdrawn entry stands in the queue no more (R64). -/
theorem withdrawEntry_gone (n : StripNo) (s : State) :
    n ∉ (withdrawEntry n s).grading.queue := by
  rcases withdrawEntry_cases n s with ⟨_, h⟩ | ⟨hn, h⟩ <;> rw [h]
  · simp
  · exact hn

/-- A completion of a conversion that is not the one in flight changes nothing (R114). -/
theorem completeConversion_other (result : ConversionResult) (s : State)
    (h : ∀ cv, s.heads.conversion = some cv → cv.serial ≠ result.conversion) :
    completeConversion result s = s := by
  unfold completeConversion
  split
  · rfl
  · rename_i cv hcv
    exact if_neg (h cv hcv)

/-- A completion of an evaluation that is not the one in flight changes nothing (R77, R81). -/
theorem completeEvaluation_other (k : Nat) (s : State)
    (h : ∀ i, s.grading.inFlight = some i → i.serial ≠ k) : completeEvaluation k s = s := by
  unfold completeEvaluation
  split
  · rename_i i hi
    exact if_neg (h i hi)
  · rfl

end Sys2Proof.Machine
end

