-- ==== Sys2Proof/Tests/Slice0.lean ====
section
/-! SUPPORT. Tests/Slice0.lean: the model's own tests: the checks of WellFormed with the ill-formed
commands they refuse, the spec's worked figures, and, for each statement of Obligations.lean with
hypotheses, a concrete state and operands that meet them. Expected values are the spec's. -/

namespace Sys2Proof.Tests

open Sys2Proof Sys2Proof.Machine

/-! ### WellFormed -/

/-- A body of 251 bytes fits no frame (R179). -/
theorem test_body_too_long : (Instr.status 0 (List.replicate 251 0)).wellFormed = false := by
  decide +kernel

/-- A body of 250 bytes fits (R179). -/
theorem test_body_longest : (Instr.configWrite 0 (List.replicate 250 0)).wellFormed = true := by
  decide +kernel

/-- A kind that names a request is no unknown request (R182). -/
theorem test_known_kind : (Instr.unknownRequest 0x33 0 []).wellFormed = false := by decide

/-- A kind of 0x80 or above names no request (R182). -/
theorem test_unknown_kind : (Instr.unknownRequest 0x80 0 []).wellFormed = true := by decide

/-! ### Frames (spec/11, 11.8; spec/13) -/

/-- The register after the first byte of the worked check (spec/11, 11.8). -/
theorem test_crc8_first : crc8 [0x02] = 0xFD := by decide +kernel

/-- The register after the second byte (spec/11, 11.8). -/
theorem test_crc8_second : crc8 [0x02, 0x01] = 0xFA := by decide +kernel

/-- The frame of STATUS with tag 0 is C3 02 01 00 E8 (spec/11, 11.8). -/
theorem test_status_frame : hostFrame 0x01 0 [] = [0xC3, 0x02, 0x01, 0x00, 0xE8] := by
  decide +kernel

/-- No word spells a command: the table gives no row any bits. -/
theorem test_no_words : decodeTableWord 16 0x0123 = none := rfl

/-- BAY SET has kind 0x19 (spec/13, 13.1). -/
theorem test_bay_set_kind : commandOfFrame 0x19 7 [1, 2, 0, 0] = .baySet 7 [1, 2, 0, 0] := by decide

/-- A kind between the families names no request (spec/13, 13.1). -/
theorem test_gap_kind : commandOfFrame 0x09 7 [] = .unknownRequest 0x09 7 [] := by decide

/-- The five bytes of a STATUS frame are taken as a request (R180, R181). -/
theorem test_status_bytes :
    (match runAll ((hostFrame 0x01 7 []).map Instr.hostByteArrival) State.reset with
      | .next t => t.requestInHand
      | _ => false) = true := by decide +kernel

/-- Integers are little-endian (R195): 2205 is 9D 08. -/
theorem test_little_endian : u16 2205 = [0x9D, 0x08] := by decide

/-- A negative position in two's complement (R195). -/
theorem test_signed_position : i32 (-2) = [0xFE, 0xFF, 0xFF, 0xFF] := by decide

/-- The hold-source set as bits: GUARD and CHECK (R25, R195). -/
theorem test_hold_bits : setBits HoldSource.all [.guard, .check] = 34 := by decide

/-! ### Worked figures -/

/-- 333 mm in an interval is reported as 199 m/min (R2). -/
theorem test_speed_drops_fraction : speedOf 333 = 199 := by decide

/-- 250 mm in an interval is 150 m/min (R2). -/
theorem test_speed_exact : speedOf 250 = 150 := by decide

/-- Strip numbers run from 65535 to 1 (R5). -/
theorem test_number_wraps : numberAfter 0xFFFF = 1 := by decide

/-- A number held is skipped (R5). -/
theorem test_number_skips : freeNumber [0xFFFF, 1] 65 0xFFFF = 2 := by decide

/-- A strip standing at EYE-IN at the reset is not admitted: the gate was closed where its change began
(the note of R3). -/
theorem test_standing_at_reset :
    let f : EyeFilter := { input := true, fromReset := true, accepted := false, pending := none }
    (f.follow 7 true).pending = some { start := 7, gateOpen := false } ∧
      (((f.see false).see true).follow 7 true).pending = some { start := 7, gateOpen := true } := by
  decide

/-- A record that waits for its trailing edge is JOINED when that edge is gone, also at 2590 mm again
after reverse travel (R7). -/
theorem test_joined_after_reverse :
    let r : Strip := { newStrip 0 1 0 with joinWaits := true }
    let s : State := { State.reset with track := { State.reset.track with travel := 2590 } }
    (testJoined s r).joined = true ∧ (testJoined s (newStrip 0 1 0)).joined = false := by decide

/-- Areas 2,203,500 and 2,203,499 have label areas 2204 and 2203 (R144). -/
theorem test_label_area_half : labelArea 2203500 = 2204 ∧ labelArea 2203499 = 2203 := by decide

/-- The bundle number wraps from 999,999,999 to 1 (R139). -/
theorem test_bundle_number_wraps : bundleNumberAfter 999999999 = 1 := by decide

/-- M 300, S 150, N 16 fails check 2 and N 15 passes it (spec/12, 12.7). -/
theorem test_class_check :
    (conditions { factoryDefaults with classes := { m := 300, s := 150, n := 16 } })[1]? = some false ∧
      (conditions { factoryDefaults with classes := { m := 300, s := 150, n := 15 } })[1]? =
        some true := by decide +kernel

/-- At the factory defaults the first failing check is 1 (R193). -/
theorem test_default_check : checkResult factoryDefaults = 1 := by decide +kernel

/-- LOAD area at width 5 is 02 03 05 (spec/13, 13.6). -/
theorem test_step_bytes :
    stepOf 2 = some .load ∧ stepArgs .load [3, 5, 12] = some [3, 5] := by decide

/-- The digits 2205 at width 4 (R157). -/
theorem test_decimal : decimal 4 2205 = [2, 2, 0, 5] := by decide

/-- A reading of 0 ends a condition whose end level is 0 (R107). -/
theorem test_end_level_zero : endsCondition 5 5 0 = true ∧ endsCondition 5 5 1 = false := by decide

/-- A FAULTED strip with a suspect mark is routed for its saw fault (R118). -/
theorem test_route_rank :
    routeFor { newStrip 0 1 0 with cut := .faulted, suspect := some 2 } = .regrade .sawFault := by
  decide

/-- The inputs of the worked case of spec/04, 4.7: its tables, and strip 517 of 1043 mm. -/
def workedInputs : EvalInputs :=
  let lim (xs : List (Nat × Nat)) : Vector Limit 6 :=
    Vector.ofFn (fun k => let p := xs.getD k.val (0, 0); { sevMax := p.1, cntMax := p.2 })
  let row (base : Nat) : Vector Nat 16 := Vector.ofFn (fun c => base + 200 * c.val)
  let none : Vector Limit 6 := Vector.replicate 6 { sevMax := 0, cntMax := 0 }
  let limits : List (Vector Limit 6) :=
    [lim [(20, 2), (0, 0), (0, 0), (30, 1), (0, 0), (0, 0)],
      lim [(80, 6), (20, 1), (60, 2), (120, 3), (10, 1), (0, 0)],
      lim [(255, 15), (120, 4), (255, 15), (255, 15), (80, 3), (150, 2)]]
  { serial := 0, strip := 517, length := 1043
    defects :=
      [{ kind := 1, position := 40, extent := 25, severity := 35 },
        { kind := 4, position := 500, extent := 60, severity := 25 },
        { kind := 2, position := 985, extent := 40, severity := 15 }]
    classes := { m := 300, s := 100, n := 10 }
    grades :=
      { count := 3
        grades := Vector.ofFn (fun g => { name := spaces 12, limits := limits.getD g.val none }) }
    prices := Vector.ofFn (fun g => row ([4000, 2800, 1500].getD g.val 0))
    cutting := { tg := 6, h0 := 10, t0 := 10, q := 10 } }

/-- Spec/04, 4.7: 204 windows, GRADED class 6, SELECT, head offset 70, raw length 906, merit
4,680,000. -/
theorem test_worked_evaluation :
    evaluate workedInputs = (204, .graded 6 1 70 906 4680000) := by decide +kernel

/-! ### Reset -/

/-- The state right after reset is what the supply coming up makes of a part whose stored image does
not match (R193; notes/assumptions/5.md), its first conversion the one with serial 0
(notes/assumptions/21.md). -/
theorem test_reset_is_power_up :
    let before : State :=
      { State.reset with heads := { State.reset.heads with nextConversion := 0 } }
    settle (hardwareReset .power .b115200 .drain before) = State.reset := by decide +kernel

/-! ### States that the witnesses use -/

/-- The part with the line in a state and a hold-source set. -/
def inLine (l : LineState) (holds : List HoldSource) : State :=
  { State.reset with sup := { State.reset.sup with line := l, holds := holds } }

/-- The part with records in the track. -/
def withStrips (rs : List Strip) (s : State) : State :=
  { s with track := { s.track with strips := rs } }

/-- The part with another working configuration. -/
def withCfg (f : WorkingConfig → WorkingConfig) (s : State) : State :=
  { s with store := { s.store with working := f s.store.working } }

/-- The part with bay 1 GRADED, its key grade 1 class 0, in a state with a bundle. -/
def withBay (st : BayState) (o : OpenBundle) (s : State) : State :=
  let s := withCfg (fun c => { c with bays := c.bays.set 0 (.graded { grade := 1, cls := 0 }) }) s
  setBundle 0 (some o) (setBay 0 st s)

/-- The part with bay 1 a REGRADE bin. -/
def withBin (s : State) : State := withCfg (fun c => { c with bays := c.bays.set 0 .regrade }) s

/-- The part with a conversion in flight and nothing else requested. -/
def converting (r : ConvRequest) (h : HeadsSettings) (s : State) : State :=
  { s with heads := { s.heads with conversion := some { serial := 5, request := r, settings := h } } }

/-- A record of strip 1. -/
def strip1 : Strip := newStrip 0 1 0

/-- A dispatch record of bay 1. -/
def record1 : DispatchRecord :=
  { number := 4127, bay := 0, grade := 1, nominal := 900, width := 70, count := 35, area := 2205000
    first := 1201, last := 1296, lot := spaces 12, date := spaces 10, reason := .host
    label := .requested, reprints := 255, overflowed := false }

/-- A label of bay 1. -/
def label1 : Label := { number := 4127, bay := 0, text := [65], printed := false }

/-- A label of bay 2. -/
def label2 : Label := { number := 4128, bay := 1, text := [], printed := false }

/-- The part with labels queued, the first in flight with a timer, and bay 1's record dispatched. -/
def withLabels (ls : List Label) (inFlight : Bool) (s : State) : State :=
  { s with
    labels := { s.labels with queue := ls }
    printer :=
      { s.printer with inFlight := inFlight, applyExpiry := if inFlight then some 80000 else none }
    bundles := { s.bundles with dispatch := [record1] } }

/-- A composition with its template at the cursor. -/
def composition (template : List Byte) : Composition :=
  { record := record1, slot := 0, template := template, gradeName := spaces 12
    lineName := spaces 8 }

/-- The part with a composition in flight. -/
def composing (c : Composition) : State :=
  { State.reset with labels := { State.reset.labels with composing := some c } }

/-- The inputs of an evaluation of one strip: one grade, one class, every price 0. -/
def evalInputs (n : StripNo) : EvalInputs :=
  { serial := 0, strip := n, length := 600, defects := [], classes := factoryDefaults.classes
    grades := factoryDefaults.grades, prices := factoryDefaults.prices
    cutting := factoryDefaults.cutting }

/-- A working configuration that passes the consistency check. -/
def goodConfig : WorkingConfig :=
  { factoryDefaults with
    line :=
      { factoryDefaults.line with
        psc := 10, pmo := 20, pdp := 30, pem := 40, pck := 50, psa := 300
        pb := Vector.ofFn (fun i => 400 + 10 * i.val), pend := 60000, width := 70 }
    classes := { m := 300, s := 100, n := 10 }
    grades := { factoryDefaults.grades with count := 3 }
    templates := factoryDefaults.templates.set 0 [12] }

/-- The good configuration passes (R191). -/
theorem test_good_config : checkResult goodConfig = 0 := by decide +kernel

/-- Everything a request can meet: supply, and no request in hand. -/
theorem listening_reset : Listening State.reset := ⟨rfl, rfl⟩

/-! ### Witnesses: the machine, its clock and its pins -/

/-- StepRunsTheFrontCommand: an empty queue with an event due, and with none. -/
theorem witness_clock :
    State.reset.pending = [] ∧ State.reset.powered = true ∧ dueEvent State.reset = none ∧
      dueEvent { State.reset with now := 400 } = some .speedIntervalEnd := by decide

/-- CommandsAnswerNextStates: no supply, and a command that is no supply coming up. -/
theorem witness_without_supply :
    ({ State.reset with powered := false } : State).powered = false ∧
      ∀ baud fsel, Instr.lampGDim ≠ .hardwareReset .power baud fsel :=
  ⟨rfl, fun _ _ h => by cases h⟩

/-- OutputPinsFollowTheState: a lamp's phase at its end and one quarter-millisecond before it, and each
line state of LAMP-G's rule. -/
theorem witness_output_pins :
    let s (l : LineState) (n : Nat) : State :=
      { inLine l [] with
        now := n
        sup :=
          { (inLine l []).sup with
            lampA := some { lit := true, ends := 1000 }, lampG := some { lit := true, ends := 1000 } } }
    (s .run 1000).powered = true ∧ (s .run 1000).sup.line = .run ∧
      (s .hold 1000).sup.lampA.map (·.ends) = some (s .hold 1000).now ∧
      (s .hold 1000).sup.lampG.map (·.ends) = some (s .hold 1000).now ∧
      (s .hold 999).sup.lampA.map (·.ends) = some ((s .hold 999).now + 1) ∧
      (s .hold 999).sup.line = .hold ∧ (s .failsafe 999).sup.line = .failsafe := by decide

/-- FramesGoAndNoticesWait, the arbiter: a line busy, free with nothing, a reply, a notice and both. -/
theorem witness_arbiter :
    let r : Reply := { kind := 1, tag := 0, answer := .accepted [], inHand := true }
    let link (rs : List Reply) (ns : List NoticeEntry) : HostLink :=
      { State.reset.link with tx := .free, replies := rs, notices := ns }
    let e : NoticeEntry := NoticeEntry.fresh .effective
    State.reset.link.tx ≠ .free ∧ State.reset.store.restart ≠ .due ∧
      (link [] []).tx = .free ∧ (link [] []).replies = [] ∧ (link [] []).notices = [] ∧
      (link [r] []).replies = [r] ∧ (link [] [e]).notices = [e] ∧ (link [r] [e]).replies = [r] ∧
      (link [r] [e]).notices = [e] := by decide

/-! ### Witnesses: the host link and the reads -/

/-- FramesAreTheirCommands, the host line, with a body of the greatest size. -/
theorem witness_host_frames :
    (List.replicate 250 (0 : Byte)).length ≤ 250 ∧ State.reset.powered = true ∧
      State.reset.link.rx.stage = .hunt ∧ settle State.reset = State.reset := by decide +kernel

/-- WrongSizesAndKindsAreRefused: STATUS with a byte, kind 0x80, and RUN in START. -/
theorem witness_refusals :
    Listening State.reset ∧ fixedBodySize 0x01 = some 0 ∧ ([0] : List Byte).length ≠ 0 ∧
      namesRequest 0x80 = false ∧ (serveKind 0x02 [] State.reset).2 = .refused .state 0 :=
  ⟨listening_reset, by decide, by decide, by decide, by decide⟩

/-- A part with a request in hand and n BUSY refusals waiting. -/
def busyWith (n : Nat) : State :=
  { State.reset with
    link :=
      { State.reset.link with
        replies :=
          { kind := 1, tag := 0, answer := .accepted [], inHand := true } ::
            List.replicate n { kind := 2, tag := 1, answer := .refused .busy 0, inHand := false } } }

/-- WrongSizesAndKindsAreRefused, with a request in hand: three BUSY refusals waiting, and four. -/
theorem witness_turned_away :
    (busyWith 3).powered = true ∧ (busyWith 3).requestInHand = true ∧ (busyWith 3).busyWaiting < 4 ∧
      (busyWith 4).requestInHand = true ∧ 4 ≤ (busyWith 4).busyWaiting := by decide

/-- A part whose host receiver holds a stage, its last byte at 0, at a moment. -/
def receivingAt (st : RxStage) (n : Nat) : State :=
  { State.reset with
    now := n, link := { State.reset.link with rx := { stage := st, lastByte := 0 } } }

/-- HostBytesAreJudged: each stage, at 20 ms and a quarter-millisecond past it. -/
theorem witness_host_bytes :
    (receivingAt .hunt 80).link.rx.stage = .hunt ∧ (receivingAt .length 80).link.rx.stage = .length ∧
      (receivingAt .length 80).now ≤ (receivingAt .length 80).link.rx.lastByte + 80 ∧
      (2 ≤ (2 : Byte).toNat ∧ (252 : Byte).toNat ≤ 252) ∧ ((1 : Byte).toNat < 2 ∧ 252 < (253 : Byte).toNat) ∧
      (receivingAt (.collect 2 []) 80).link.rx.stage = .collect 2 [] ∧
      (receivingAt (.check 2 [1, 0]) 80).link.rx.stage = .check 2 [1, 0] ∧
      crc8 [2, 1, 0] ≠ 0xE9 ∧ (receivingAt .length 81).link.rx.stage ≠ .hunt ∧
      (receivingAt .length 81).link.rx.lastByte + 80 < (receivingAt .length 81).now := by
  decide +kernel

/-- FramesGoAndNoticesWait: a reply going, the RESTART reply going, a notice going, a mask set whose bits
name masks and one whose bit 15 names none, a masked event, and one whose source waits. -/
theorem witness_frames_go :
    let r : Reply := { kind := 0x33, tag := 0, answer := .accepted [], inHand := true }
    let s : State :=
      { State.reset with link := { State.reset.link with tx := .reply r.frame, replies := [r] } }
    s.powered = true ∧ s.link.tx = .reply r.frame ∧ s.link.replies = [r] ∧ s.store.restart = .none ∧
      ({ s.store with restart := .pending } : ConfigStore).restart = .pending ∧
      (match State.reset.link.tx with
        | .notice _ => true
        | _ => false) = true ∧
      ((0x3F : Byte) ++ (0x7F : Byte) ++ (0xFF : Byte) : BitVec 24).getLsbD 15 = false ∧
      ((0 : Byte) ++ (0x80 : Byte) ++ (0 : Byte) : BitVec 24).getLsbD 15 = true ∧
      ({ State.reset.link with masks := 1 } : HostLink).masks.getLsbD (Notice.state .run).maskBit =
        true ∧
      State.reset.link.masks.getLsbD (Notice.state .run).maskBit = false ∧
      State.reset.link.notices.map (·.source) = [(Notice.state .run).source] := by decide +kernel

/-- ReadsChangeNothing: the selectors at the ends of their ranges. -/
theorem witness_reads :
    Listening State.reset ∧ (63 : Byte).toNat ≤ 63 ∧ 63 < (64 : Byte).toNat ∧
      (12 : Byte).toNat = (11 : Bay).val + 1 ∧ 12 < (13 : Byte).toNat ∧
      State.reset.bundles.bundles[(11 : Bay)] = none ∧
      (withBay .opened (OpenBundle.fresh { grade := 1, cls := 0 }) State.reset).bundles.bundles[(0 : Bay)] =
        some (OpenBundle.fresh { grade := 1, cls := 0 }) ∧
      sectionOf (27 : Byte).toNat = some .translateHigh ∧ sectionOf (1 : Byte).toNat = some .line ∧
      27 < (28 : Byte).toNat :=
  ⟨listening_reset, by decide, by decide, by decide, by decide, by decide, by decide, by decide,
    by decide, by decide⟩

/-! ### Witnesses: the track -/

/-- CountsMoveTravel: at one count per millimetre every count is a millimetre; at two, the first is
short of one. -/
theorem witness_counts :
    let s (n : Nat) : State :=
      let s := withCfg (fun c => { c with line := { c.line with countsPerMm := n } }) State.reset
      { s with track := { s.track with countsInForce := n } }
    (s 2).powered = true ∧ (s 2).track.countsInForce = (s 2).cfg.line.countsPerMm ∧
      (s 2).track.remainder + 1 < (s 2).cfg.line.countsPerMm ∧
      -((s 2).cfg.line.countsPerMm : Int) < (s 2).track.remainder - 1 ∧
      ((s 1).cfg.line.countsPerMm : Int) ≤ (s 1).track.remainder + 1 ∧
      (s 1).track.remainder - 1 ≤ -((s 1).cfg.line.countsPerMm : Int) := by decide

/-- EyeChangesPend: no change, a pending change and a new one; no record in admission or candidate; and a
pending change at the filter distance of 3 mm and a millimetre short of it. -/
theorem witness_eyes :
    let f (i a : Bool) (p : Option PendingChange) : EyeFilter :=
      { input := i, fromReset := false, accepted := a, pending := p }
    let c : PendingChange := { start := 0, gateOpen := false }
    let s (a : Bool) (n : Travel) : State :=
      { State.reset with
        track :=
          { State.reset.track with
            travel := n, eyeIn := f (!a) a (some c), eyeCk := f (!a) a (some c) } }
    (f true true (some c)).input = (f true true (some c)).accepted ∧
      (f true false (some c)).input ≠ (f true false (some c)).accepted ∧
      (f true false (some c)).pending ≠ none ∧ (f true false none).pending = none ∧
      State.reset.powered = true ∧ State.reset.track.inAdmission = none ∧
      State.reset.candidate = none ∧ State.reset.track.eyeCk.accepted = false ∧
      (s true 3).track.eyeIn.pending = some c ∧ (s true 3).track.eyeCk.pending = some c ∧
      ((s true 3).cfg.line.eyeInFilter : Int) ≤ ((s true 3).track.travel - c.start).toInt ∧
      ((s true 3).cfg.line.eyeCkFilter : Int) ≤ ((s true 3).track.travel - c.start).toInt ∧
      ((s true 2).track.travel - c.start).toInt < (s true 2).cfg.line.eyeInFilter ∧
      ((s true 2).track.travel - c.start).toInt < (s true 2).cfg.line.eyeCkFilter ∧
      (s true 3).track.eyeIn.accepted = true ∧ (s false 3).track.eyeIn.accepted = false := by decide

/-- CountsMoveTravel, the feed speed: at the end of the interval, and before it. -/
theorem witness_speed :
    State.reset.powered = true ∧
      ({ State.reset with now := 400 } : State).track.intervalEnd ≤ 400 ∧
      State.reset.now < State.reset.track.intervalEnd := by decide

/-- AdmissionGivesFreeNumbers: 63 records leave room and 64 do not. -/
theorem witness_admission :
    ([1, 2] : List StripNo).length ≤ 64 ∧ (0xFFFF : StripNo) ≠ 0 ∧
      (withStrips (List.replicate 63 strip1) State.reset).track.strips.length < 64 ∧
      64 ≤ (withStrips (List.replicate 64 strip1) State.reset).track.strips.length ∧
      ({ start := 0, gateOpen := true } : PendingChange).gateOpen = true := by decide +kernel

/-- A part whose strip 1, admitted at travel 0, is in admission, with a pending trailing edge or none. -/
def admitting (r : Strip) (n : Travel) (edge : Option Travel) : State :=
  let s := withStrips [r] State.reset
  { s with
    track :=
      { s.track with
        travel := n
        inAdmission := some 0
        eyeIn :=
          { input := edge.isNone, fromReset := false, accepted := true
            pending := edge.map (fun e => { start := e, gateOpen := true }) } } }

/-- AdmissionsEnd: lengths of 149, 150, 2600 and 2601 mm, a scan COMPLETE and none; and 2600 and 2601 mm
of travel, with a trailing edge begun at 2600 mm, one begun at 2601 mm and none, and a record waiting. -/
theorem witness_admissions_end :
    (admitting strip1 2601 none).track.inAdmission = some 0 ∧
      (admitting strip1 2601 none).stripSerial 0 = some strip1 ∧
      ((149 : Travel) - strip1.admission).toInt < 150 ∧
      150 ≤ ((150 : Travel) - strip1.admission).toInt ∧
      ((2600 : Travel) - strip1.admission).toInt ≤ 2600 ∧
      2600 < ((2601 : Travel) - strip1.admission).toInt ∧
      State.reset.track.inAdmission = none ∧ strip1.scan ≠ .complete ∧
      ({ strip1 with scan := .complete } : Strip).scan = .complete ∧ strip1.joined = false ∧
      strip1.plan = none ∧ strip1.eval = .notQueued ∧
      ((admitting strip1 2601 none).track.strips.map (·.serial)).Nodup ∧
      (admitting strip1 2601 none).track.eyeIn.accepted = true ∧
      2601 ≤ ((admitting strip1 2601 none).track.travel - strip1.admission).toInt ∧
      ((admitting strip1 2600 none).track.travel - strip1.admission).toInt < 2601 ∧
      strip1.joinWaits = false ∧ ({ strip1 with joinWaits := true } : Strip).joinWaits = true ∧
      (admitting strip1 2601 (some 2600)).track.eyeIn.pending.map (·.start) = some 2600 ∧
      ((2600 : Travel) - strip1.admission).toInt ≤ 2600 ∧
      (admitting strip1 2601 none).track.eyeIn.pending = none := by decide

/-- A part with Pck at 500 mm, tolerance 20 mm and travel 500, where a record admitted at travel 0 stands
at the check eye, and an edge in a state. -/
def atCheckEye (rs : List Strip) (edge : CkEdge) (blocked : Bool) : State :=
  let s := withCfg (fun c => { c with line := { c.line with pck := 500 } })
    (withStrips rs State.reset)
  { s with
    track :=
      { s.track with
        travel := 500, nextSerial := 9, ckEdge := edge
        eyeCk := { input := blocked, fromReset := false, accepted := true, pending := none } } }

/-- CheckEyeEdgesAreJudged: an edge at both ends of the tolerance and a millimetre before it, a record
that follows closely and none, a track with room and a full one, and every record MATCHED. -/
theorem witness_check_edges :
    let s := atCheckEye [strip1] .none true
    let d (e : Travel) : Int :=
      (e - (strip1.admission + strip1.adjustment)).toInt - s.cfg.line.pck
    let full : State := withStrips (List.replicate 64 strip1) s
    s.track.strips = [] ++ strip1 :: [] ∧ strip1.check = .unchecked ∧
      (s.track.strips.map (·.serial)).Nodup ∧ s.cfg.line.checkTolerance = 20 ∧
      d 480 = -20 ∧ d 520 = 20 ∧ d 479 < -20 ∧ s.track.strips.length < 64 ∧
      64 ≤ full.track.strips.length ∧
      (atCheckEye [strip1, { newStrip 1 2 0 with adjustment := 0 }] .none true).track.strips =
        [] ++ strip1 :: [newStrip 1 2 0] ∧
      (500 - ((500 : Travel) - 500)).toInt ≤ ((500 : Travel) - ((newStrip 1 2 0).admission + 0)).toInt ∧
      (∀ q ∈ (atCheckEye [{ strip1 with check := .matched }] .none true).track.strips,
        q.check = .matched) := by decide +kernel

/-- CheckEyeEdgesAreTaken: 149 and 150 mm past an edge, the eye clear and blocked, a pair closed short
and long of 150 mm, a judged edge with a record and without; a candidate at Pck and the tolerance and one
beyond. -/
theorem witness_check_edges_taken :
    let s (e : CkEdge) (b : Bool) : State := atCheckEye [strip1] e b
    let at_ (n : Travel) : State :=
      { s .none false with track := { (s .none false).track with travel := n } }
    (s (.awaiting 350) true).track.ckEdge = .awaiting 350 ∧
      (s (.awaiting 350) true).track.eyeCk.input = true ∧
      150 ≤ ((s (.awaiting 350) true).track.travel - 350).toInt ∧
      ((s (.awaiting 351) true).track.travel - 351).toInt < 150 ∧
      (s (.awaiting 350) false).track.eyeCk.input = false ∧
      (∀ e, (s .none true).track.ckEdge ≠ .awaiting e) ∧
      ((499 : Travel) - 350).toInt < 150 ∧ 150 ≤ ((500 : Travel) - 350).toInt ∧
      (s (.judged 350 none) true).track.ckEdge = .judged 350 none ∧
      (s (.judged 350 (some 0)) true).track.ckEdge = .judged 350 (some 0) ∧
      (s .none true).track.strips = [] ++ strip1 :: [] ∧ strip1.check = .unchecked ∧
      ((at_ 520).track.travel - (strip1.admission + strip1.adjustment)).toInt = 500 + 20 ∧
      500 + 20 < ((at_ 521).track.travel - (strip1.admission + strip1.adjustment)).toInt ∧
      (at_ 521).track.eyeCk.pending = none ∧ (at_ 521).track.ckEdge = .none ∧
      (∀ q ∈ (atCheckEye [] .none true).track.strips, q.check = .matched) :=
  ⟨rfl, rfl, by decide, by decide, rfl, fun e h => (by cases h), by decide, by decide, rfl, rfl, rfl,
    rfl, by decide, by decide, rfl, rfl, by decide⟩

/-- RecordsLeaveTheTrack: 64 records and 63, TRACKFULL in the set and not, RUN and HOLD, alone and with
another source; an empty track in HOLD, with hold effective and without, and in STOPPING. -/
theorem witness_records_leave :
    let full (l : LineState) (hs : List HoldSource) : State :=
      withStrips (List.replicate 64 strip1) (inLine l hs)
    let room (l : LineState) (hs : List HoldSource) : State :=
      withStrips (List.replicate 63 strip1) (inLine l hs)
    64 ≤ (full .run []).track.strips.length ∧ (full .run []).track.strips ≠ [] ∧
      (full .run []).sup.holdEffective = false ∧ .trackFull ∉ (full .run []).sup.holds ∧
      (full .run []).sup.line = .run ∧ (full .failsafe []).sup.line ≠ .run ∧
      (room .hold [.trackFull]).track.strips.length < 64 ∧
      .trackFull ∈ (room .hold [.trackFull]).sup.holds ∧
      (room .hold [.trackFull]).sup.holds.filter (· != .trackFull) = [] ∧
      (room .hold [.trackFull, .bin]).sup.holds.filter (· != .trackFull) ≠ [] ∧
      (inLine .hold [.host]).track.strips = [] ∧ .trackFull ∉ (inLine .hold [.host]).sup.holds ∧
      (inLine .hold [.host]).sup.holdEffective = false ∧
      ({ (inLine .hold [.host]).sup with holdEffective := true } : Supervisor).holdEffective = true ∧
      (inLine .stopping []).sup.line = .stopping := by decide +kernel

/-- A record lost before Pdp takes its entry out of the evaluation queue, the others keeping their order
(R64; notes/assumptions/49.md); one without an entry leaves the queue as it is. -/
theorem test_lost_record_leaves_the_queue :
    let s (q : List StripNo) : State :=
      { withStrips [strip1] State.reset with grading := { GradingEngine.reset with queue := q } }
    (leaveTrack strip1 (s [7, 1, 9])).grading.queue = [7, 9] ∧
      (leaveTrack strip1 (s [7, 1, 9])).grading.withdrawn = 1 ∧
      (1 : StripNo) ∉ (s [7, 9]).grading.queue ∧ (leaveTrack strip1 (s [7, 9])).grading = (s [7, 9]).grading := by
  decide +kernel

/-- RecordsLeaveTheTrack: a record in the track of an effective HOLD. -/
theorem witness_hold_effective_lost :
    let s := withStrips [strip1] (inLine .hold [.host])
    let s : State := { s with sup := { s.sup with holdEffective := true } }
    s.track.strips ≠ [] ∧ s.sup.holdEffective = true ∧ s.track.strips.length < 64 ∧
      .trackFull ∉ s.sup.holds := by decide

/-- PassingEventsAreRaised: a record at Psc, one a millimetre short, one raised before and a phantom made
at the point; an admitted record and a phantom, with an order out and none. -/
theorem witness_passing :
    let s := atCheckEye [strip1] .none true
    let at_ (c : Option Int) (raised : List PassEvent) : Strip :=
      { strip1 with createdAt := c, raised := raised }
    s.stripSerial 0 = some strip1 ∧ s.stripSerial 1 = none ∧
      ((s.cfg.line.psc : Nat) : Int) ≤ (s.track.travel - (strip1.admission + strip1.adjustment)).toInt ∧
      (s.track.travel - (strip1.admission + strip1.adjustment)).toInt < 501 ∧
      .pscLead ∉ (at_ none []).raised ∧ .pscLead ∈ (at_ none [.pscLead]).raised ∧
      (at_ (some 0) []).createdAt = some 0 ∧ ¬ (0 : Int) < 0 ∧ strip1.origin = .admitted ∧
      ({ strip1 with origin := .phantom } : Strip).origin = .phantom ∧
      ({ strip1 with cut := .ordered } : Strip).cut = .ordered ∧ strip1.cut ≠ .ordered := by decide

/-! ### Witnesses: the line and its supervision -/

/-- RunAndResumeStartTheLine, RUN: outside READY, in READY, with a check running, and with a hold source. -/
theorem witness_run :
    Listening State.reset ∧ LineInv State.reset ∧ State.reset.sup.line ≠ .ready ∧
      Listening (inLine .ready []) ∧ LineInv (inLine .ready []) ∧
      (inLine .ready []).sup.line = .ready ∧ (inLine .ready []).heads.check ≠ .running ∧
      LineInv (inLine .ready [.host]) ∧ (inLine .ready [.host]).sup.holds ≠ [] ∧
      ({ (inLine .ready []).heads with check := .running } : HeadMonitor).check = .running := by
  simp only [Listening, LineInv, HoldsMatchLine, MonitorsMatchLine, HoldEffectiveExact]
  decide

/-- StopHoldAndReleaseAct, STOP: RUN with and without a record, FAILSAFE, STOPPING. -/
theorem witness_stop :
    Listening (inLine .run []) ∧ (withStrips [strip1] (inLine .run [])).track.strips ≠ [] ∧
      (inLine .run []).sup.line = .run ∧ (inLine .run []).track.strips = [] ∧
      (inLine .failsafe []).sup.line = .failsafe ∧ (inLine .stopping []).sup.line = .stopping :=
  ⟨⟨rfl, rfl⟩, by decide, rfl, rfl, rfl, rfl⟩

/-- StopHoldAndReleaseAct, HOLD and RELEASE: HOST in the set and not, in RUN and HOLD, alone and with another source. -/
theorem witness_hold :
    Listening (inLine .hold [.host]) ∧ .host ∈ (inLine .hold [.host]).sup.holds ∧
      .host ∉ (inLine .run []).sup.holds ∧ (inLine .run []).sup.line = .run ∧
      (inLine .ready []).sup.line ≠ .run ∧
      (inLine .hold [.host]).sup.holds.filter (· != .host) = [] ∧
      (inLine .hold [.host, .bin]).sup.holds.filter (· != .host) ≠ [] :=
  ⟨⟨rfl, rfl⟩, by decide, by decide, rfl, by decide, by decide, by decide⟩

/-- RunAndResumeStartTheLine, RESUME: outside FAILSAFE, and in it with stop pending, a hold source and neither. -/
theorem witness_resume :
    let stopped : State :=
      { inLine .failsafe [] with sup := { (inLine .failsafe []).sup with stopPending := true } }
    Listening stopped ∧ stopped.sup.line = .failsafe ∧ stopped.sup.stopPending = true ∧
      stopped.track.strips = [] ∧ (withStrips [strip1] stopped).track.strips ≠ [] ∧
      (inLine .failsafe [.host]).sup.stopPending = false ∧
      (inLine .failsafe [.host]).sup.holds ≠ [] ∧ (inLine .failsafe []).sup.holds = [] ∧
      (inLine .run []).sup.line ≠ .failsafe :=
  ⟨⟨rfl, rfl⟩, rfl, rfl, rfl, by decide, rfl, by decide, rfl, by decide⟩

/-- A part in RUN with a keep-alive window, at a moment. -/
def windowAt (w : Window) (n : Nat) : State :=
  { inLine .run [] with now := n, sup := { (inLine .run []).sup with window := w } }

/-- A part in a line state with a guard monitor and a hold-source set, GUARD high since 0, at a moment. -/
def guardAt (l : LineState) (g : GuardMonitor) (holds : List HoldSource) (n : Nat) : State :=
  { inLine l holds with
    now := n
    sup := { (inLine l holds).sup with guard := g, guardHigh := true, guardHighSince := some 0 } }

/-- KeepAliveAndGuardAreMonitored: the closed part of a 500 ms window ends at 200 ms and the window at
500 ms, a LONG one at 5 s; GUARD's edge is accepted at 1 ms. -/
theorem witness_monitors :
    Listening (windowAt .none 0) ∧ (windowAt .none 0).sup.window = .none ∧
      0 + 4 * 500 * 2 / 5 ≤ (windowAt (.normal 0 500) 800).now ∧
      (windowAt (.normal 0 500) 799).now < 0 + 4 * 500 * 2 / 5 ∧
      (windowAt (.normal 0 500) 799).sup.line ≠ .failsafe ∧
      0 + 4 * 500 ≤ (windowAt (.normal 0 500) 2000).now ∧
      (windowAt (.normal 0 500) 1999).now < 0 + 4 * 500 ∧
      0 + 20000 ≤ (windowAt (.long 0) 20000).now ∧ (windowAt (.long 0) 19999).now < 0 + 20000 ∧
      (guardAt .run .inactive [] 4).sup.guardHigh = true ∧
      0 + 4 ≤ (guardAt .run .inactive [] 4).now ∧ (guardAt .run .inactive [] 3).now < 0 + 4 ∧
      (guardAt .hold .lapsed [.guard] 4).sup.guard = .lapsed ∧
      .guard ∈ (guardAt .hold .lapsed [.guard] 4).sup.holds ∧
      (guardAt .hold .lapsed [.guard] 4).sup.holds.filter (· != .guard) = [] ∧
      (guardAt .hold .lapsed [.host, .guard] 4).sup.holds.filter (· != .guard) ≠ [] ∧
      .guard ∉ (guardAt .hold .lapsed [.host] 4).sup.holds ∧
      (guardAt .run (.watching 4) [] 4).sup.guard = .watching 4 ∧
      .guard ∉ (guardAt .run (.watching 4) [] 4).sup.holds ∧
      (guardAt .failsafe (.watching 4) [] 4).sup.line ≠ .run := by
  simp only [Listening]
  decide

/-- AlarmClearKeepsLivingCauses. -/
theorem witness_alarm_clear : Listening State.reset := listening_reset

/-! ### Witnesses: the field lines, the scanner, the engine and the saw -/

/-- FramesAreTheirCommands, a field line: an END on the scanner line. -/
theorem witness_field_frames :
    fieldFrameOf (.scannerEnd 1 0) = some (.scanner, fieldFrame 0x04 [1, 0, 0]) ∧
      State.reset.powered = true ∧ (State.reset.fieldRx .scanner).stage = .hunt ∧
      settle State.reset = State.reset := by decide +kernel

/-- FieldLineErrorsAreCounted: a partial frame at 2 ms and past it; a byte collected, the last and not; a
bad check; and the byte 0x7F kept, a kind no message has. -/
theorem witness_field_errors :
    let s (st : RxStage) (n : Nat) : State :=
      { State.reset with now := n, saw := { State.reset.saw with rx := { stage := st, lastByte := 0 } } }
    (s .length 9).powered = true ∧ ((s .length 9).fieldRx .saw).stage ≠ .hunt ∧
      ((s .length 9).fieldRx .saw).lastByte + 8 < (s .length 9).now ∧
      (s .length 8).now ≤ ((s .length 8).fieldRx .saw).lastByte + 8 ∧
      ((s .hunt 8).fieldRx .saw).stage = .hunt ∧
      ((s (.collect 2 [0x13]) 8).fieldRx .saw).stage = .collect 2 [0x13] ∧
      ((s (.check 1 [0x13]) 8).fieldRx .saw).stage = .check 1 [0x13] ∧
      crc8 [1, 0x13] ≠ 0 ∧ ([0x7F] : List Byte).length = 1 := by decide +kernel

/-- A field line's frame of a kind other than 0x7F is no frame of kind 0x7F. -/
theorem frame_of_other_kind (sum : Byte) (line : FieldLine) (kind : Byte) (body : List Byte)
    (hk : kind ≠ 0x7F) : some (line, fieldFrame kind body) ≠ some (.saw, [0xC3, 1, 0x7F, sum]) := by
  intro h
  have third : (fieldFrame kind body)[2]? = some kind := by simp [fieldFrame, u8]
  rw [Option.some.injEq, Prod.mk.injEq] at h
  rw [h.2] at third
  exact hk (by simpa using third.symm)

/-- FieldLineErrorsAreCounted: a frame of kind 0x7F is no message of 13.5, whatever its check. -/
theorem witness_no_message (sum : Byte) (c : Instr) :
    fieldFrameOf c ≠ some (.saw, [0xC3, 1, 0x7F, sum]) := by
  cases c
  case scannerStart => exact frame_of_other_kind _ _ _ _ (by decide)
  case defect => exact frame_of_other_kind _ _ _ _ (by decide)
  case scannerEnd => exact frame_of_other_kind _ _ _ _ (by decide)
  case sawDone => exact frame_of_other_kind _ _ _ _ (by decide)
  case sawFault => exact frame_of_other_kind _ _ _ _ (by decide)
  case printerReady => exact frame_of_other_kind _ .printer 0x21 [] (by decide)
  case printed => exact frame_of_other_kind _ .printer 0x23 _ (by decide)
  case applied => exact frame_of_other_kind _ .printer 0x24 _ (by decide)
  case printerFault => exact frame_of_other_kind _ .printer 0x25 _ (by decide)
  all_goals exact fun h => by cases h

/-- A part whose reception holds a state for strip 1, with strips announced and a record. -/
def scanning (st : Reception) (announces : List StripNo) (r : Strip) : State :=
  withStrips [r]
    { State.reset with
      scanner :=
        { State.reset.scanner with
          reception := st, announces := announces
          receiving := if st = .receiving then some 1 else none } }

/-- Sixteen defects. -/
def sixteen : List Defect :=
  List.replicate 16 { kind := 1, position := 0, extent := 1, severity := 1 }

/-- ScansAreJudged: a START at the head of the list, behind another, too late and unmatched; a DEFECT at
the bounds of its ranges with 15 and 16 stored, and one out of range; an END with the count received and
another, for a strip measured, JOINED, TRUNCATED or planned, and one naming another strip. -/
theorem witness_scans :
    let open15 : Strip := { strip1 with scan := .receiving, defects := some (sixteen.drop 1) }
    let open16 : Strip := { strip1 with scan := .receiving, defects := some sixteen }
    let late : Strip := { strip1 with plan := some (.pass .short) }
    (scanning .idle [1] strip1).scanner.announces = 1 :: [] ∧
      (scanning .idle [1] strip1).scanner.reception = .idle ∧
      (scanning .idle [1] strip1).stripNo 1 = some strip1 ∧ strip1.plan = none ∧
      (scanning .idle [7, 1] strip1).scanner.announces = [7] ++ 1 :: [] ∧
      (1 : StripNo) ∉ ([7] : List StripNo) ∧
      (scanning .idle [1] late).stripNo 1 = some late ∧ late.plan ≠ none ∧
      (1 : StripNo) ∉ (scanning .idle [] strip1).scanner.announces ∧
      (scanning .receiving [] open15).stripNo 1 = some open15 ∧ (open15.defects.getD []).length < 16 ∧
      (scanning .receiving [] open16).scanner.receiving = some 1 ∧
      16 ≤ (open16.defects.getD []).length ∧ open16.scan = .receiving ∧
      open15.infeed = none ∧ open15.joined = false ∧
      (scanning .receiving [] open15).scanner.received = (0 : Byte).toNat ∧
      (scanning .receiving [] open15).scanner.received ≠ (1 : Byte).toNat ∧
      (scanning .receiving [] open15).scanner.damaged = false ∧
      defectInRange { kind := 6, position := 2599, extent := 2600, severity := 255 } = true ∧
      defectInRange { kind := 7, position := 0, extent := 1, severity := 1 } = false ∧
      (scanning .discarding [] strip1).scanner.reception = .discarding ∧
      (1 : StripNo) ≠ 2 ∧ ({ open16 with scan := .truncated } : Strip).scan = .truncated ∧
      ({ open15 with infeed := some 600 } : Strip).infeed ≠ none ∧
      ({ open15 with joined := true } : Strip).joined = true ∧
      ({ open15 with plan := some (.pass .short) } : Strip).plan ≠ none := by decide

/-- ScansAreJudged: a START too late, one entry of the announce list ahead of its strip. -/
theorem witness_scan_too_late :
    let late : Strip := { strip1 with plan := some (.pass .short) }
    let s := scanning .idle [7, 1] late
    s.powered = true ∧ s.scanner.reception = .idle ∧ (1 : StripNo) ∉ ([7] : List StripNo) ∧
      s.scanner.announces = [7] ++ 1 :: [] ∧ s.stripNo 1 = some late ∧ late.plan ≠ none := by decide

/-- Grading tables with one class and every price 1. -/
def pricedInputs (len : Nat) : EvalInputs :=
  { evalInputs 1 with
    length := len
    classes := { m := 300, s := 100, n := 1 }
    grades := { factoryDefaults.grades with count := 1 }
    prices := Vector.replicate 8 (Vector.replicate 16 1)
    cutting := { tg := 0, h0 := 0, t0 := 0, q := 50 } }

/-- EvaluationResultsFit: a strip of exactly one class nominal is GRADED, and one
a millimetre shorter is SHORT. -/
theorem witness_evaluations :
    1 ≤ (pricedInputs 300).classes.n ∧ evaluate (pricedInputs 300) = (1, .graded 0 1 0 300 300) ∧
      ((pricedInputs 300).classes.m : Int) ≤
        usableSpan (pricedInputs 300).cutting (pricedInputs 300).length ∧
      (evaluate (pricedInputs 299)).2 = .pass .short ∧
      defaultPlan { factoryDefaults with
          classes := { m := 300, s := 100, n := 1 }, cutting := { tg := 0, h0 := 0, t0 := 0, q := 50 } }
        300 .noscan = .default .noscan 0 0 300 := by decide +kernel

/-- EvaluationResultsFit, the windows of spec/04, 4.7: the tail-aligned one of class 6 and the one chosen, a
defect that counts in it and one that does not, its grade, and a window that no grade admits. -/
theorem witness_windows :
    let i := workedInputs
    let top := topClass i.classes (usableSpan i.cutting i.length)
    let chosen : CutWindow := { cls := 6, offset := 70, width := 906 }
    let whole : CutWindow := { cls := 7, offset := 10, width := 1006 }
    1 ≤ i.cutting.q ∧ (i.classes.m : Int) ≤ usableSpan i.cutting i.length ∧ top = 7 ∧
      chosen ∈ windows i.classes i.cutting i.length top ∧
      { chosen with offset := 127 } ∈ windows i.classes i.cutting i.length top ∧
      chosen.offset = i.cutting.h0 + (6 : Fin 32).val * i.cutting.q ∧
      127 + chosen.width + i.cutting.t0 = i.length ∧
      (valueWindow i (spans i.length i.defects) chosen).grade = some ((0 : Fin 8).val + 1) ∧
      chosen.cls = (6 : Fin 16).val ∧
      (valueWindow i (spans i.length i.defects) whole).grade ≠ some ((0 : Fin 8).val + 1) ∧
      (valueWindow { i with grades := { i.grades with count := 1 } } (spans i.length i.defects)
        whole).grade = none ∧
      (evaluate (pricedInputs 300)).2 ≠ .pass .noValue ∧
      (evaluate { pricedInputs 300 with prices := Vector.replicate 8 (Vector.replicate 16 0) }).2 =
        .pass .noValue := by decide +kernel

/-- EvaluationsCompleteInOrder: the serial in flight and another, a queue with a strip, of 7 and 8
entries, and an engine busy and idle. -/
theorem witness_evaluation_completes :
    let s (i : Option EvalInputs) (q : List StripNo) : State :=
      withStrips [strip1]
        { State.reset with grading := { State.reset.grading with inFlight := i, queue := q } }
    (s (some (evalInputs 2)) []).powered = true ∧
      (s (some (evalInputs 2)) []).grading.inFlight = some (evalInputs 2) ∧
      (evalInputs 2).serial ≠ 1 ∧ (s (some (evalInputs 2)) []).grading.inFlight ≠ none ∧
      (s none []).grading.queue = [] ∧ (s none [1]).grading.queue = 1 :: [] ∧
      (s none [1]).grading.inFlight = none ∧ (s none [1]).stripNo 1 = some strip1 ∧
      (List.replicate 7 (1 : StripNo)).length < 8 ∧ 8 ≤ (List.replicate 8 (1 : StripNo)).length := by
  decide

/-- PlansAreFixedAtPdp: a record for each row of R76's table. -/
theorem witness_plans :
    let s (r : Strip) : State := withStrips [r] State.reset
    let long : Strip := { strip1 with infeed := some 600 }
    (s strip1).stripSerial strip1.serial = some strip1 ∧ strip1.origin = .admitted ∧
      ({ strip1 with origin := .phantom } : Strip).origin = .phantom ∧
      ({ strip1 with joined := true } : Strip).joined = true ∧ strip1.joined = false ∧
      strip1.infeed = none ∧ long.infeed = some 600 ∧ long.joined = false ∧
      ({ long with eval := .done, result := some (.pass .short) } : Strip).result =
        some (.pass .short) ∧
      ({ long with eval := .evaluating } : Strip).eval = .evaluating ∧
      ({ long with eval := .queued } : Strip).eval = .queued ∧ long.eval ≠ .done ∧
      long.eval ≠ .evaluating ∧ long.eval ≠ .queued ∧
      ({ long with scan := .truncated } : Strip).scan = .truncated ∧
      ({ long with scan := .incomplete } : Strip).scan = .incomplete ∧
      ({ long with scan := .complete } : Strip).scan = .complete ∧ long.scan = .none := by decide

/-- A part with one record of a cut state, its order outstanding. -/
def cutting (c : CutState) (route : Option Route) : State :=
  withStrips [{ strip1 with cut := c, route := route }]
    { State.reset with
      saw := { State.reset.saw with orders := [{ strip := 1, form := .cut 10 300 }] } }

/-- SawRepliesAreJudged: an ORDERED record, one UNCONFIRMED, one without an order, none at all, one
FAULTED, with a route and without, and one CONFIRMED with a route. -/
theorem witness_saw :
    (cutting .ordered none).powered = true ∧
      (cutting .ordered none).stripNo 1 = some { strip1 with cut := .ordered } ∧
      (cutting .ordered none).saw.orders.find? (fun o => o.strip == 1) =
        some { strip := 1, form := .cut 10 300 } ∧
      (cutting .unconfirmed none).stripNo 1 = some { strip1 with cut := .unconfirmed } ∧
      (cutting .none none).stripNo 1 = some { strip1 with cut := .none } ∧
      State.reset.stripNo 1 = none ∧
      (cutting .faulted none).stripNo 1 = some { strip1 with cut := .faulted } ∧
      (cutting .faulted (some (.regrade .sawFault))).stripNo 1 =
        some { strip1 with cut := .faulted, route := some (.regrade .sawFault) } ∧
      (cutting .confirmed (some (.reject .phantom))).stripNo 1 =
        some { strip1 with cut := .confirmed, route := some (.reject .phantom) } := by decide

/-! ### Witnesses: the heads -/

/-- A part with a temperature conversion in flight, its conditions, and levels 150 and 200 with
hysteresis 10. -/
def warm (l : LineState) (holds : List HoldSource) (pre shut : Bool) : State :=
  let s := withCfg (fun c =>
    { c with heads := { c.heads with preWarning := 150, shutdown := 200, hysteresis := 10 } })
    (inLine l holds)
  let s := converting .temperature factoryDefaults.heads s
  { s with heads := { s.heads with preWarning := pre, shutdown := shut } }

/-- TemperatureIsJudged: readings at the levels, below them and below their end levels; the timers at
their moments and before. A result r is the reading r / 4. -/
theorem witness_temperature :
    (warm .ready [] false false).powered = true ∧
      (warm .ready [] false false).heads.conversion =
        some { serial := 5, request := .temperature, settings := factoryDefaults.heads } ∧
      (warm .ready [] false false).heads.requests = [] ∧
      (599 : BitVec 10).toNat / 4 < (warm .ready [] false false).cfg.heads.preWarning ∧
      (warm .ready [] false false).cfg.heads.preWarning ≤ (600 : BitVec 10).toNat / 4 ∧
      (600 : BitVec 10).toNat / 4 < (warm .ready [] false false).cfg.heads.shutdown ∧
      (warm .ready [] true false).heads.preWarning = true ∧ (559 : BitVec 10).toNat / 4 < 150 - 10 ∧
      ¬ (800 : BitVec 10).toNat / 4 < 150 - 10 ∧
      (warm .ready [] true false).cfg.heads.shutdown ≤ (800 : BitVec 10).toNat / 4 ∧
      .temp ∉ (warm .run [] true false).sup.holds ∧ (warm .run [] true false).sup.line = .run ∧
      (warm .ready [.temp] true true).heads.shutdown = true ∧
      ((759 : BitVec 10).toNat / 4 < 200 - 10 ∧ ¬ (759 : BitVec 10).toNat / 4 < 150 - 10) ∧
      ((559 : BitVec 10).toNat / 4 < 150 - 10 ∧ (559 : BitVec 10).toNat / 4 < 200 - 10) ∧
      (warm .hold [.temp] false true).sup.line = .hold ∧
      (warm .hold [.temp] false true).sup.holds.filter (· != .temp) = [] ∧
      (warm .ready [] false false).cfg.heads.preWarning ≤ (800 : BitVec 10).toNat / 4 ∧
      .temp ∈ (warm .ready [.temp] true true).sup.holds ∧
      (warm .ready [.temp] true true).sup.line ≠ .hold := by decide

/-- TemperatureIsJudged, one reading against both levels: both begin in RUN, both end and HOLD goes to
RUN, and, with the shutdown level below, the pre-warning ends as the shutdown begins. -/
theorem witness_temperature_both :
    let low := withCfg (fun c => { c with heads := { c.heads with preWarning := 220 } })
      (warm .ready [] true false)
    let up := warm .run [] false false
    let down := warm .hold [.temp] true true
    (up.heads.preWarning = false ∧ up.heads.shutdown = false ∧ .temp ∉ up.sup.holds ∧
        up.sup.line = .run ∧ up.cfg.heads.preWarning ≤ (800 : BitVec 10).toNat / 4 ∧
        up.cfg.heads.shutdown ≤ (800 : BitVec 10).toNat / 4) ∧
      (down.heads.preWarning = true ∧ down.heads.shutdown = true ∧ .temp ∈ down.sup.holds ∧
        down.sup.line = .hold ∧ down.sup.holds.filter (· != .temp) = [] ∧
        (559 : BitVec 10).toNat / 4 < 150 - 10) ∧
      (low.heads.preWarning = true ∧ low.heads.shutdown = false ∧ low.cfg.heads.hysteresis = 10 ∧
        (800 : BitVec 10).toNat / 4 < 220 - 10 ∧
        low.cfg.heads.shutdown ≤ (800 : BitVec 10).toNat / 4) := by decide

/-- TemperatureIsJudged, the timers. -/
theorem witness_temperature_timers :
    let s (n : Nat) (rs : List ConvRequest) (c : Option Conversion) : State :=
      { State.reset with
        now := n, heads := { State.reset.heads with requests := rs, conversion := c } }
    (s 1999 [] none).now < (s 1999 [] none).heads.nextTemp ∧
      (s 2000 [] none).heads.nextTemp ≤ (s 2000 [] none).now ∧
      .temperature ∈ (s 2000 [.temperature] none).heads.requests ∧
      State.reset.heads.conversion ≠ none ∧ (s 2000 [] none).heads.conversion = none ∧
      (s 2000 [] none).heads.requests = [] ∧ (s 8000 [] none).heads.tempSince + 8000 ≤ 8000 ∧
      7999 < (s 7999 [] none).heads.tempSince + 8000 := by decide

/-- SlicesArePlaced: a record, a phantom and a record whose trailing edge has passed each head point; a
converter busy and idle, an end-match request behind a moulder one, a moulder request, a check, a head in
service and one out of service, and a TEMPERATURE request stale and not, alone and with another. -/
theorem witness_slices_placed :
    let s (rs : List ConvRequest) (stale : Bool) : State :=
      { State.reset with
        heads :=
          { State.reset.heads with conversion := none, requests := rs, stale := stale } }
    let some' : List ConvRequest := [.moulder 1 0, .endMatch 1 4, .temperature]
    strip1.origin = .admitted ∧ ({ strip1 with origin := .phantom } : Strip).origin = .phantom ∧
      .pmoTrail ∉ strip1.raised ∧
      .pmoTrail ∈ ({ strip1 with raised := [.pmoTrail, .pemTrail] } : Strip).raised ∧
      .pemTrail ∈ ({ strip1 with raised := [.pmoTrail, .pemTrail] } : Strip).raised ∧
      State.reset.heads.conversion ≠ none ∧ (s some' false).heads.conversion = none ∧
      (s some' false).heads.requests = [.moulder 1 0] ++ .endMatch 1 4 :: [.temperature] ∧
      (∀ m k, ConvRequest.endMatch m k ∉ [ConvRequest.moulder 1 0]) ∧
      (s [.moulder 1 0] false).heads.requests = [] ++ .moulder 1 0 :: [] ∧
      (s [.check 2] false).heads.requests = [] ++ .check 2 :: [] ∧
      (s [.temperature] true).heads.requests = [] ++ .temperature :: [] ∧
      (s some' true).heads.requests = [.moulder 1 0, .endMatch 1 4] ++ .temperature :: [] ∧
      (s some' true).heads.stale = true ∧ .temperature ∉ [ConvRequest.moulder 1 0, .endMatch 1 4] ∧
      (State.reset.cfg.heads.head[(4 : Head)]).enabled = true ∧
      ((withCfg (fun c =>
        { c with heads := { c.heads with head := c.heads.head.map (fun h => { h with enabled := false }) } })
          State.reset).cfg.heads.head[(4 : Head)]).enabled = false :=
  ⟨rfl, rfl, by decide, by decide, by decide, by decide, rfl, rfl, by simp, rfl, rfl, rfl, rfl, rfl,
    by decide, by decide, by decide +kernel⟩

/-- A part with Pmo and Pem at 10 mm where the leading edge of a strip of a length stands a settle distance
beyond them, neither trailing passing raised. -/
def atSettle (length settle : Nat) : State :=
  let s := withCfg (fun c => { c with line := { c.line with pmo := 10, pem := 10, settle := settle } })
    (withStrips [{ strip1 with infeed := some length }] State.reset)
  { s with track := { s.track with travel := BitVec.ofNat 32 (10 + settle) } }

/-- At a settle distance of 150 mm a strip of 150 mm is sampled and one of 149 mm is skipped; so is one of
150 mm at 160 mm, whose trailing passing falls due at the same change of travel (R98, R99). -/
theorem test_slices_skipped :
    let skips (s : State) (e : PassEvent) : Count16 := (raiseEvent 0 s e).heads.skipped
    [.pmoSettleLead, .pemSettleLead].map (skips (atSettle 150 150)) = [0, 0] ∧
      [.pmoSettleLead, .pemSettleLead].map (skips (atSettle 149 150)) = [1, 1] ∧
      [.pmoSettleLead, .pemSettleLead].map (skips (atSettle 150 160)) = [1, 1] := by decide +kernel

/-- SlicesArePlaced: a trailing edge just at the head point, one a millimetre beyond it, and no length. -/
theorem witness_passed_head :
    let s := atSettle 150 150
    let r : Strip := { strip1 with infeed := some 150 }
    let leading : Int := (s.track.travel - (r.admission + r.adjustment)).toInt
    s.track.strips = [r] ∧ r.origin = .admitted ∧ r.raised = [] ∧ r.current = none ∧
      ¬ ((s.cfg.line.pmo : Int) < leading - 150) ∧ (s.cfg.line.pmo : Int) < leading - 149 ∧
      strip1.infeed = none ∧ strip1.current = none := by decide

/-- Head settings with diagnostics on, cut-absent 10, overload 20 and confirm count 2, and minimum speed
1. -/
def sliceSettings : HeadsSettings :=
  { factoryDefaults.heads with
    minSpeed := 1
    head := factoryDefaults.heads.head.map (fun h =>
      { h with diagnostics := true, cutAbsent := 10, overload := 20, confirm := 2 }) }

/-- A part with a slice of strip 1 on a head in flight, at a feed speed and a bad count. -/
def slicingOn (q : ConvRequest) (h : Head) (r : Strip) (speed bad : Nat) : State :=
  let s := converting q sliceSettings (withStrips [r] State.reset)
  { s with
    track := { s.track with speed := speed }
    heads := { s.heads with records := s.heads.records.set h { badCount := bad } } }

/-- A part with an end-match slice of strip 1 on H5 in flight. -/
def slicing (r : Strip) (speed bad : Nat) : State := slicingOn (.endMatch 1 4) 4 r speed bad

/-- SlicesAreJudged: loads at and beyond both levels, at the minimum speed and below it, short of the
confirm count and reaching it, a record passed and one gone; a moulder head, diagnostics off, and a
completion of another conversion. -/
theorem witness_slices :
    ((slicing strip1 1 0).powered = true ∧ 4 ≤ (4 : Head).val ∧
      (slicing strip1 1 0).heads.conversion =
        some { serial := 5, request := .endMatch 1 4, settings := sliceSettings } ∧
      (slicing strip1 1 0).heads.requests = [] ∧
      (slicing strip1 1 0).stripNo 1 = some strip1 ∧ .pemTrail ∉ strip1.raised ∧
      (slicing { strip1 with raised := [.pemTrail] } 1 0).stripNo 1 =
        some { strip1 with raised := [.pemTrail] } ∧
      sliceSettings.head[(4 : Head)].diagnostics = true ∧
      (sliceSettings.head[(4 : Head)].cutAbsent ≤ 10 ∧ 20 ≤ sliceSettings.head[(4 : Head)].overload) ∧
      (9 < sliceSettings.head[(4 : Head)].cutAbsent ∧ sliceSettings.head[(4 : Head)].overload < 21) ∧
      (slicing strip1 0 0).track.speed < sliceSettings.minSpeed ∧
      sliceSettings.minSpeed ≤ (slicing strip1 1 0).track.speed ∧
      sliceSettings.head[(4 : Head)].confirm >
        (slicing strip1 1 0).heads.records[(4 : Head)].badCount + 1 ∧
      sliceSettings.head[(4 : Head)].confirm ≤
        (slicing strip1 1 1).heads.records[(4 : Head)].badCount + 1 ∧
      (slicing strip1 1 1).heads.records[(4 : Head)].latched = none ∧
      (converting (.endMatch 1 4) sliceSettings State.reset).stripNo 1 = none ∧
      (0 : Head).val < 4 ∧ (slicingOn (.moulder 1 0) 0 strip1 1 0).heads.conversion =
        some { serial := 5, request := .moulder 1 0, settings := sliceSettings } ∧
      .pmoTrail ∉ strip1.raised ∧
      ({ factoryDefaults.heads.head[(4 : Head)] with diagnostics := false } : HeadSettings).diagnostics =
        false) ∧
      (∀ cv, (slicing strip1 1 0).heads.conversion = some cv → cv.serial ≠ 4) :=
  ⟨by decide +kernel, fun cv h => (by cases h; decide)⟩

/-- LatchesMarkAndReport: a last good strip and none, a head masked and not, policy STOP with HEAD in the
set and not, in RUN with a record and elsewhere, a record with a route, suspect and neither, and two
latched heads. -/
theorem witness_latches :
    let detail : FaultDetail :=
      { stripAtLatch := 1, lastGoodAtLatch := none, suspects := 0, escaped := 0 }
    let latched (r : HeadRecord) : HeadRecord :=
      { r with latched := some .overload, detail := some detail }
    let s (mask : Bool) (l : LineState) : State :=
      let s := withStrips [strip1] (inLine l [])
      let s := withCfg (fun c =>
        { c with
          heads :=
            { c.heads with
              head := c.heads.head.map (fun h => { h with masked := mask, policy := .stop }) } }) s
      { s with heads := { s.heads with records := s.heads.records.map latched } }
    State.reset.heads.records[(4 : Head)].lastGood = none ∧
      ({ badCount := 0, lastGood := some 7 } : HeadRecord).lastGood = some 7 ∧
      (s false .run).track.strips = [] ++ strip1 :: [] ∧
      ((s false .run).track.strips.map (·.serial)).Nodup ∧ strip1.route = none ∧
      strip1.suspect = none ∧ ({ strip1 with suspect := some 4 } : Strip).suspect ≠ none ∧
      ({ strip1 with route := some (.graded 1 0) } : Strip).route ≠ none ∧
      ((s true .run).cfg.heads.head[(4 : Head)]).masked = true ∧
      ((s false .run).cfg.heads.head[(4 : Head)]).masked = false ∧
      (s false .run).heads.records[(4 : Head)].detail = some detail ∧
      ((s false .run).cfg.heads.head[(4 : Head)]).policy = .stop ∧
      .head ∉ (s false .run).sup.holds ∧ (s false .run).sup.line = .run ∧
      (s false .failsafe).sup.line ≠ .run ∧ (s false .run).track.strips ≠ [] ∧
      (s false .run).stripSerial strip1.serial = some strip1 ∧ strip1.number ≠ 0 ∧
      ([4, 5] : List Head) = [] ++ 4 :: [5] ∧ (4 : Head) ∉ ([5] : List Head) ∧
      (s false .run).heads.records[(4 : Head)].latched ≠ none ∧
      (s false .run).heads.records[(5 : Head)].latched ≠ none ∧
      (∀ m ∈ ([4, 5] : List Head), State.reset.heads.records[m].latched = none) := by decide +kernel

/-- ChecksRunToTheirEnd: the check of H1 with H2 next, of H6 with none left, in HOLD with CHECK alone and
elsewhere. -/
theorem witness_checks :
    let s (h : Head) (l : LineState) : State :=
      let s := converting (.check h) factoryDefaults.heads (inLine l [.check])
      { s with heads := { s.heads with check := .running, cursor := some h } }
    (s 0 .hold).powered = true ∧
      (s 0 .hold).heads.conversion =
        some { serial := 5, request := .check 0, settings := factoryDefaults.heads } ∧
      (s 0 .hold).heads.requests = [] ∧ (0 : Head) < 1 ∧
      ((s 0 .hold).cfg.heads.head[(1 : Head)]).enabled = true ∧
      (∀ j : Head, 0 < j → j < 1 → ¬ ((s 0 .hold).cfg.heads.head[j]).enabled = true) ∧
      (∀ m : Head, 5 < m → ¬ ((s 5 .hold).cfg.heads.head[m]).enabled = true) ∧
      (s 5 .hold).sup.line = .hold ∧ .check ∈ (s 5 .hold).sup.holds ∧
      (s 5 .hold).sup.holds.filter (· != .check) = [] ∧ (s 5 .ready).sup.line ≠ .hold := by
  decide +kernel


/-- HeadRequestsAreServed: HEAD in the set and not, a check running, a track not empty, and READY with
the converter idle and H1 in service. -/
theorem witness_heads :
    let idle : State :=
      let s := withCfg (fun c =>
        { c with heads := { c.heads with head := c.heads.head.map (fun h => { h with enabled := true }) } })
        (inLine .ready [])
      { s with heads := { s.heads with conversion := none } }
    Listening idle ∧ .head ∉ idle.sup.holds ∧ .head ∈ (inLine .ready [.head]).sup.holds ∧
      (inLine .ready [.head]).sup.line ≠ .hold ∧ (inLine .hold [.head]).sup.line = .hold ∧
      (inLine .hold [.head]).sup.holds.filter (· != .head) = [] ∧
      (∀ n : Head, (inLine .ready [.head]).heads.records[n].latched = none) ∧
      ({ idle.heads with check := .running } : HeadMonitor).check = .running ∧
      (withStrips [strip1] idle).track.strips ≠ [] ∧ idle.heads.check ≠ .running ∧
      idle.track.strips = [] ∧ idle.sup.line = .ready ∧ .check ∉ idle.sup.holds ∧
      idle.heads.conversion = none ∧ idle.heads.requests = [] ∧
      (idle.cfg.heads.head[(0 : Head)]).enabled = true ∧
      ∀ k : Head, k < 0 → (idle.cfg.heads.head[k]).enabled = false := by
  simp only [Listening]
  decide +kernel

/-- HeadRequestsAreServed, HEAD CHECK in an effective HOLD: the converter busy, and no head enabled. -/
theorem witness_head_check :
    let enabled (on : Bool) : State :=
      let s := withCfg (fun c =>
        { c with heads := { c.heads with head := c.heads.head.map (fun h => { h with enabled := on }) } })
        (inLine .hold [.host])
      { s with sup := { s.sup with holdEffective := true } }
    Listening (enabled true) ∧ (enabled true).heads.check ≠ .running ∧
      (enabled true).track.strips = [] ∧ (enabled true).sup.line = .hold ∧
      (enabled true).sup.holdEffective = true ∧ .check ∉ (enabled true).sup.holds ∧
      (enabled true).heads.conversion ≠ none ∧
      ((enabled true).cfg.heads.head[(0 : Head)]).enabled = true ∧
      (∀ k : Head, ((enabled false).cfg.heads.head[k]).enabled = false) ∧
      (inLine .hold [.host]).sup.holdEffective = false := by
  simp only [Listening]
  decide +kernel

/-! ### Witnesses: bays, bundles and texts -/

/-- AssignmentsAreTakenWhole, the bay chosen: bay 1 OPEN for its key, and a REGRADE bin whose capacity leaves room for one. -/
theorem witness_bay_choice :
    let s := withBay .opened (OpenBundle.fresh { grade := 1, cls := 0 }) State.reset
    chooseBay s (.graded 1 0) = .gradedBay 0 ∧ chooseBay s (.graded 1 1) = .endChute ∧
      chooseBay (withBin State.reset) (.regrade .late) = .regradeBin 0 ∧
      chooseBay s (.regrade .late) = .endChute := by decide +kernel

/-- RoutesAreRanked: a record for each row. -/
theorem witness_routes :
    let r (p : CutPlan) (c : CutState) : Strip := { strip1 with plan := some p, cut := c }
    (r (.pass .short) .none).route = none ∧ (r (.pass .short) .none).plan = some (.pass .short) ∧
      (r (.graded 0 1 0 300 1) .confirmed).cut = .confirmed ∧
      (r (.graded 0 1 0 300 1) .confirmed).suspect = none ∧
      (r (.default .late 0 0 300) .ordered).plan = some (.default .late 0 0 300) ∧
      ({ strip1 with suspect := some 5 } : Strip).suspect ≠ none ∧
      ({ strip1 with route := some (.reject .phantom) } : Strip).route = some (.reject .phantom) := by
  decide

/-- AssignmentsAreTakenWhole, the event: bay 1 with a bundle whose next strip reaches the target, reaches
max strips or neither, an empty bundle, a MIXED and a REGRADE bin, and the chute for each route. -/
theorem witness_assignments :
    let graded : Strip := { strip1 with plan := some (.graded 0 1 0 300 1), cut := .confirmed }
    let faulted : Strip := { strip1 with cut := .faulted }
    let passed : Strip := { strip1 with plan := some (.pass .short) }
    let o (n target most : Nat) : OpenBundle :=
      { OpenBundle.fresh { grade := 1, cls := 0 } with
        limits := some { nominal := 900, width := 70, target := target, maxStrips := most }
        committed := n, committedArea := n * 63000 }
    let mixed := withCfg (fun c => { c with bays := c.bays.set 0 .mixed }) State.reset
    (routeFor graded = .graded 1 0 ∧ routeFor faulted = .regrade .sawFault ∧
        routeFor passed = .reject .short) ∧
      chooseBay (withBay .opened (o 2 189000 40) State.reset) (routeFor graded) = .gradedBay 0 ∧
      (withBay .opened (o 2 189000 40) State.reset).bundles.bundles[(0 : Bay)] = some (o 2 189000 40) ∧
      (0 < (o 2 189000 40).committed ∧ 189000 ≤ (o 2 189000 40).committedArea + 900 * 70) ∧
      ((o 2 189001 3).committedArea + 900 * 70 < 189001 ∧ (o 2 189001 3).committed + 1 = 3) ∧
      (o 2 189001 4).committed + 1 ≠ 4 ∧ (o 0 189001 4).committed = 0 ∧
      chooseBay mixed (routeFor graded) = .mixedBin 0 ∧
      chooseBay (withBin State.reset) (routeFor faulted) = .regradeBin 0 ∧
      chooseBay State.reset (routeFor graded) = .endChute ∧
      chooseBay State.reset (routeFor faulted) = .endChute ∧
      chooseBay mixed (routeFor passed) = .endChute := by decide +kernel

/-- BayAndBinRequestsAreServed: each field at the edge of its range, a bay in use and one free, a role
repeated, a check that fails in START and READY and one that passes, a bin, a bay that is none, and the
chute with BIN in the set and not. -/
theorem witness_bay_requests :
    let s := withBin (inLine .failsafe [])
    let checked (l : LineState) : State := withCfg (fun _ => goodConfig) (inLine l [])
    Listening s ∧ (12 : Byte).toNat = (11 : Bay).val + 1 ∧ 12 < (13 : Byte).toNat ∧
      3 < (4 : Byte).toNat ∧ 8 < (9 : Byte).toNat ∧ 15 < (16 : Byte).toNat ∧
      s.bayInUse 0 = false ∧ s.cfg.bays[(0 : Bay)] ≠ roleOf 2 0 0 ∧
      s.cfg.bays[(0 : Bay)] = roleOf 1 0 0 ∧ s.sup.line ≠ .start ∧
      s.sup.line ≠ .ready ∧
      (modifyBay 0 (fun e => { e with occupancy := 1 }) s).bayInUse 0 = true ∧
      (checked .ready).sup.line = .ready ∧ (checked .start).sup.line = .start ∧
      checkResult { goodConfig with bays := goodConfig.bays.set 0 (roleOf 1 0 0) } = 0 ∧
      checkResult { factoryDefaults with bays := factoryDefaults.bays.set 0 (roleOf 1 0 0) } ≠ 0 ∧
      s.cfg.bays[(0 : Bay)] = .regrade ∧ s.cfg.bays[(1 : Bay)] ≠ .regrade ∧
      s.cfg.bays[(1 : Bay)] ≠ .mixed ∧ .bin ∉ s.sup.holds ∧ .bin ∈ (inLine .ready [.bin]).sup.holds ∧
      (inLine .ready [.bin]).sup.line ≠ .hold ∧ (inLine .hold [.bin]).sup.line = .hold ∧
      (inLine .hold [.bin]).sup.holds.filter (· != .bin) = [] ∧ 13 < (14 : Byte).toNat := by
  simp only [Listening]
  decide +kernel

/-- DropsAreCounted: a record of each kind of bay and of none, and a chute one short of its capacity, with
BIN in the set and not, in RUN and elsewhere. -/
theorem witness_drops :
    let s (n : Count16) (l : LineState) (hs : List HoldSource) : State :=
      { inLine l hs with sort := { State.reset.sort with chuteOccupancy := n } }
    let bound (d : Destination) : Strip := { strip1 with bay := some d }
    (bound (.gradedBay 0)).bay = some (.gradedBay 0) ∧ (bound (.regradeBin 1)).bay = some (.regradeBin 1) ∧
      (bound (.mixedBin 2)).bay = some (.mixedBin 2) ∧ (bound .endChute).bay = some .endChute ∧
      strip1.bay = none ∧
      (s 199 .run []).cfg.bundling.chuteCapacity ≤
        (sat16 (s 199 .run []).sort.chuteOccupancy).toNat ∧
      ¬ (s 198 .run []).cfg.bundling.chuteCapacity ≤
        (sat16 (s 198 .run []).sort.chuteOccupancy).toNat ∧
      .bin ∉ (s 199 .run []).sup.holds ∧ (s 199 .run []).sup.line = .run ∧
      (s 199 .stopping []).sup.line ≠ .run ∧ .bin ∈ (s 199 .hold [.bin]).sup.holds := by decide

/-- BundleNumbersRunOn: the numbers 1, 999,999,999, 0 and 1,000,000,000. -/
theorem witness_bundle_numbers :
    Listening State.reset ∧ readLe [1, 0, 0, 0] = 1 ∧ readLe [0xFF, 0xC9, 0x9A, 0x3B] = 999999999 ∧
      readLe [0, 0, 0, 0] = 0 ∧ 999999999 < readLe [0x00, 0xCA, 0x9A, 0x3B] :=
  ⟨listening_reset, by decide, by decide, by decide, by decide⟩

/-- A bundle with counts and limits of a strip area of 63,000 mm². -/
def bundle1 (committed dropped : Nat) : OpenBundle :=
  { OpenBundle.fresh { grade := 1, cls := 0 } with
    limits := some { nominal := 900, width := 70, target := 2200000, maxStrips := 40 }
    committed := committed, committedArea := committed * 63000, dropped := dropped
    droppedArea := dropped * 63000 }

/-- BundleNumbersRunOn, BAY CLOSE: no bundle, a bay not OPEN, an empty bundle, one with strips to come, and one
whose strips have all dropped, with a composition in flight. -/
theorem witness_bay_close :
    let s (st : BayState) (o : OpenBundle) : State := withBay st o (composing (composition []))
    Listening (s .opened (bundle1 1 1)) ∧ State.reset.bundles.bundles[(0 : Bay)] = none ∧
      (1 : Byte).toNat = (0 : Bay).val + 1 ∧
      (s .opened (bundle1 1 1)).bundles.bundles[(0 : Bay)] = some (bundle1 1 1) ∧
      (s .closing (bundle1 1 1)).sort.bays[(0 : Bay)].state ≠ some .opened ∧
      (s .opened (bundle1 0 0)).sort.bays[(0 : Bay)].state = some .opened ∧
      (bundle1 0 0).committed = 0 ∧ (bundle1 2 1).dropped ≠ (bundle1 2 1).committed ∧
      (bundle1 1 1).dropped = (bundle1 1 1).committed ∧
      (bundle1 1 1).limits = some { nominal := 900, width := 70, target := 2200000, maxStrips := 40 } ∧
      (s .opened (bundle1 1 1)).labels.composing ≠ none := by
  simp only [Listening]
  decide +kernel

/-- BundlesFillAndClose: a bundle of 35 strips, 20 of them dropped; commitments that reach the target,
max strips and neither; a drop that completes a FILLED bay's bundle and one that does not; and bays that
close at the run end, none, one and two. -/
theorem witness_bundle_areas :
    (AreasFollowCounts (bundle1 35 20) ∧ 0 < (bundle1 35 20).committed) ∧
    (let s (st : BayState) (o : OpenBundle) : State := withBay st o State.reset
    let two : State := setBundle 1 (some (bundle1 2 1)) (setBay 1 .opened (s .opened (bundle1 2 1)))
    (s .opened (bundle1 34 0)).bundles.bundles[(0 : Bay)] = some (bundle1 34 0) ∧
      ((bundle1 34 0).commit (s .opened (bundle1 34 0)).cfg).limits = (bundle1 34 0).limits ∧
      2200000 ≤ (bundle1 34 0).committedArea + 900 * 70 ∧
      (bundle1 33 0).committedArea + 900 * 70 < 2200000 ∧
      ({ bundle1 9 0 with
        limits := some { nominal := 900, width := 70, target := 2200000, maxStrips := 10 } } :
          OpenBundle).committed + 1 = 10 ∧
      (s .filled (bundle1 2 1)).sort.bays[(0 : Bay)].state = some .filled ∧
      (bundle1 2 1).dropped + 1 = (bundle1 2 1).committed ∧
      (bundle1 3 1).dropped + 1 ≠ (bundle1 3 1).committed ∧
      ({ bundle1 2 1 with closeReason := some .target } : OpenBundle).closeReason = some .target ∧
      State.reset.cfg.bundling.closeAtRunEnd = true ∧
      (∀ b, State.reset.bundles.bundles[(b : Bay)] = none) ∧
      (s .opened (bundle1 2 1)).sort.bays[(0 : Bay)].state = some .opened ∧
      0 < (bundle1 2 1).dropped ∧ two.bundles.bundles[(0 : Bay)] = some (bundle1 2 1) ∧
      two.bundles.bundles[(1 : Bay)] = some (bundle1 2 1) ∧
      two.sort.bays[(1 : Bay)].state = some .opened) :=
  ⟨⟨⟨by decide, fun _ => ⟨_, rfl, by decide, by decide⟩⟩, by decide⟩, by decide +kernel⟩

/-- BundlesFillAndClose, the run-end closure: bays 1, 2 and 12 close, of all twelve. -/
theorem witness_run_end_closure :
    let close (b : Bay) (s : State) : State := setBundle b (some (bundle1 2 1)) (setBay b .opened s)
    let s := close 11 (close 1 (close 0 State.reset))
    let bs : List Bay := [0, 1, 11]
    s.cfg.bundling.closeAtRunEnd = true ∧ bs.Pairwise (· < ·) ∧
      (∀ b, b ∈ bs → s.sort.bays[b].state = some .opened ∧
        s.bundles.bundles[b] = some (bundle1 2 1) ∧ 0 < (bundle1 2 1).dropped) ∧
      ∀ b : Bay, b ∉ bs → s.sort.bays[b].state = none := by decide +kernel

/-- LabelAreaIsRounded: the worked area of 2,205,000 mm² at width 5, and the greatest area. -/
theorem witness_label_area :
    (10526999 < 10527000) ∧ 1 ≤ (5 : Byte).toNat ∧ (5 : Byte).toNat ≤ 10 ∧
      labelArea (composition []).record.area < 10 ^ (5 : Byte).toNat := by decide

/-- TextsAndTemplatesAreStored: 22 characters, slots 8 and 9, 192 and 193 bytes, and a slot in use. -/
theorem witness_texts :
    Listening (inLine .run []) ∧ (List.replicate 22 (65 : Byte)).length = 22 ∧
      (8 : Byte).toNat = (7 : Fin 8).val + 1 ∧ 8 < (9 : Byte).toNat ∧
      (List.replicate 192 (0 : Byte)).length ≤ 192 ∧ 192 < (List.replicate 193 (0 : Byte)).length ∧
      (composing (composition [])).labels.composing = some (composition []) ∧
      (inLine .run []).labels.composing = none ∧ (inLine .run []).sup.line ≠ .start ∧
      (inLine .run []).sup.line ≠ .ready := by
  simp only [Listening]
  decide +kernel

/-- TextsAndTemplatesAreStored, the check that follows: in START and READY, a template with which the good
configuration passes, and an empty one with which it fails. -/
theorem witness_template_checks :
    let s (l : LineState) : State := withCfg (fun _ => goodConfig) (inLine l [])
    Listening (s .start) ∧ (s .start).sup.line = .start ∧ (s .ready).sup.line = .ready ∧
      (1 : Byte).toNat = (0 : Fin 8).val + 1 ∧
      (∀ c, (s .start).labels.composing = some c → c.slot ≠ 0) ∧
      checkResult { goodConfig with templates := goodConfig.templates.set 0 [11, 12] } = 0 ∧
      checkResult { goodConfig with templates := goodConfig.templates.set 0 [] } ≠ 0 := by
  simp only [Listening]
  refine ⟨⟨rfl, rfl⟩, rfl, rfl, by decide, fun c h => (by cases h), by decide +kernel, by decide +kernel⟩

/-- EmittingStepsAddCharacters: each step at the cursor, with room up to the 240th character. -/
theorem witness_emitting_steps :
    (composing (composition [1, 1, 65])).powered = true ∧
      (composing (composition [1, 1, 65])).labels.composing = some (composition [1, 1, 65]) ∧
      (composition [1, 1, 65]).template.drop (composition [1, 1, 65]).cursor = [1, 1, 65] ++ [] ∧
      ({ composition [11] with output := List.replicate 239 65 } : Composition).output.length + 1 ≤ 240 ∧
      240 < ({ composition [1, 1, 65] with output := List.replicate 240 65 } : Composition).output.length +
        (1 : Byte).toNat ∧
      (3 : Byte).toNat ≤ 3 ∧ (64 : Byte).toNat ≤ 64 ∧ (12 : Byte).toNat ≤ 12 ∧
      ([9, 4, 12] : List Byte) = [9, 4, 12] ++ [] ∧ (4 : Byte).toNat - 1 = 3 := by decide +kernel

/-- COPY of each text field (R160): grade name, lot code, date text and line name. -/
theorem test_text_fields :
    let r : DispatchRecord :=
      { record1 with lot := List.replicate 12 0x4C, date := List.replicate 10 0x44 }
    let c : Composition :=
      { composition [] with
        record := r, gradeName := List.replicate 12 0x47, lineName := List.replicate 8 0x4E }
    [1, 2, 3, 4, 5].map (textFieldOf c) =
      [some (List.replicate 12 0x47), some (List.replicate 12 0x4C), some (List.replicate 10 0x44),
        some (List.replicate 8 0x4E), none] := by decide

/-- LOAD of each numeric field (R157), of a record of grade 3 bound for bay 5. -/
theorem test_numeric_fields :
    (List.range 12).map (numericField { record1 with grade := 3, bay := 4 }) =
      [none, some 4127, some 35, some 2205, some 900, some 70, some 3, some 5, some 1201, some 1296,
        some 255, none] := by decide

/-- RegisterStepsSetTheirState: a field that fits its width and one that does not, a register of ten
digits, and the toggles. -/
theorem witness_register_steps :
    record1.number = 4127 ∧ 1 ≤ (1 : Byte).toNat ∧ (10 : Byte).toNat - 1 = 9 ∧
      record1.reprints = 255 ∧ 4127 < 10 ^ (4 : Byte).toNat ∧
      10 ^ (3 : Byte).toNat ≤ 4127 ∧ (composition [3, 1]).loaded = false ∧
      (let c : Composition :=
        { composition [3, 10] with
          loaded := true, remaining := 10, significance := true, digits := List.replicate 10 9 }
      c.loaded = true ∧ (10 : Byte).toNat ≤ c.remaining ∧ c.overflowed = false ∧
        c.output.length + 10 ≤ 240 ∧ (c.digits.drop (c.digits.length - c.remaining)).take 10 =
          List.replicate 10 9) ∧
      ([0, 0, 5, 0] : List Nat) = List.replicate 2 0 ++ [5, 0] ∧ ([5, 0] : List Nat).head? ≠ some 0 ∧
      ({ composition [3, 10] with overflowed := true } : Composition).overflowed = true ∧
      (composition [10, 0]).zero = false ∧
      ({ composition [10, 64] with zero := true } : Composition).zero = true := by decide

/-- CompositionsEnd: END at the cursor, the template at its end, and codes 0 and 13. -/
theorem witness_compositions_end :
    (composing (composition [12])).labels.requests = [] ∧
      (composing (composition [12])).printer.ready = false ∧
      (composition [12]).template.drop 0 = 12 :: [] ∧ (composition []).template.drop 0 = [] ∧
      (0 : Byte).toNat = 0 ∧ 12 < (13 : Byte).toNat ∧ (composition [12]).overflowSeen = none ∧
      ({ composition [12] with overflowSeen := some 3 } : Composition).overflowSeen = some 3 := by
  decide

/-- CompositionsEnd, faults: each kind of step with too few bytes, with an argument a unit outside its
range, and with an output of 240 characters before it; BLANKZERO of a loaded zero. -/
theorem witness_composition_faults :
    let cut (t : List Byte) : Prop := (composition t).template.drop (composition t).cursor = t
    (cut [1, 3, 65, 65] ∧ ([3, 65, 65] : List Byte).length ≤ (3 : Byte).toNat) ∧
      (cut [2, 1] ∧ ([1] : List Byte).length < 2) ∧ cut [3] ∧
      (cut [1, 65] ∧ 64 < (65 : Byte).toNat) ∧ (cut [2, 11, 1] ∧ 10 < (11 : Byte).toNat) ∧
      (cut [5, 4] ∧ 3 < (4 : Byte).toNat) ∧ (cut [9, 5, 13] ∧ 12 < (13 : Byte).toNat) ∧
      cut [11] ∧ cut [7, 1] ∧ cut [6, 3] ∧
      240 < ({ composition [7, 1] with output := List.replicate 240 65 } : Composition).output.length +
        (1 : Byte).toNat ∧
      (let c : Composition :=
        { composition [3, 1] with
          loaded := true, remaining := 1, digits := [5], output := List.replicate 240 65 }
      c.loaded = true ∧ (1 : Byte).toNat ≤ c.remaining ∧ c.remaining ≤ c.digits.length ∧
        240 < c.output.length + (1 : Byte).toNat) ∧
      let c : Composition :=
        { composition [10, 1] with zero := true, loadMark := 240, output := List.replicate 240 65 }
      c.zero = true ∧ 240 < min c.loadMark c.output.length + (1 : Byte).toNat := by decide +kernel

/-- CompositionsEnd, END with a READY seen, with the printer OFFLINE or a label in flight, and with a bay
waiting, the queue with room and full. -/
theorem witness_composition_passes_on :
    let q : DispatchRecord := { record1 with bay := 2, number := 9 }
    let s (queue : List Label) (ready inFlight : Bool) : State :=
      let s := composing (composition [12])
      { s with
        labels := { s.labels with queue := queue }
        printer := { s.printer with ready := ready, inFlight := inFlight }
        bundles := { s.bundles with dispatch := [record1, q] } }
    let waits (s : State) : State := { s with labels := { s.labels with requests := [2] } }
    (s [] true false).powered = true ∧
      (s [] true false).labels.composing = some (composition [12]) ∧
      (composition [12]).template.drop (composition [12]).cursor = 12 :: [] ∧
      (composition [12]).overflowSeen = none ∧ (s [] true false).labels.requests = [] ∧
      (s [] true false).printer.online = true ∧ (s [] true false).printer.ready = true ∧
      (s [] true false).printer.inFlight = false ∧
      (s [label2] true false).labels.queue ++ [label1] = label2 :: [label1] ∧
      (s [] true true).printer.inFlight = true ∧
      (waits (s [] false false)).labels.requests = 2 :: [] ∧
      (waits (s [] false false)).printer.ready = false ∧
      (waits (s [] false false)).labels.queue.length < 3 ∧
      3 ≤ (waits (s [label1, label2, label2] false false)).labels.queue.length ∧
      ([{ record1 with label := .queued }, q].find? (fun r => r.bay == 2)) = some q := by decide

/-- LabelAreaIsRounded, a value spelt out: bundle number 4127 at widths 4 and 10. -/
theorem witness_loaded_digits :
    numericField (composition []).record (1 : Byte).toNat = some 4127 ∧ 1 ≤ (4 : Byte).toNat ∧
      (10 : Byte).toNat ≤ 10 ∧ 4127 < 10 ^ (4 : Byte).toNat ∧
      (composition []).output.length + (10 : Byte).toNat ≤ 240 := by decide

/-! ### Witnesses: the printer -/

/-- LabelsAreSentAndPrinted: a label queued, one in flight, an empty queue, a printer OFFLINE, and
another number. -/
theorem witness_labels_sent :
    (withLabels [label1] false State.reset).powered = true ∧
      (withLabels [label1] false State.reset).printer.online = true ∧
      (withLabels [label1] false State.reset).printer.inFlight = false ∧
      (withLabels [label1] false State.reset).labels.queue = label1 :: [] ∧
      (withLabels [label1] true State.reset).printer.inFlight = true ∧
      State.reset.labels.queue = [] ∧ label1.number = (4127 : BitVec 32).toNat ∧
      label1.number ≠ (4128 : BitVec 32).toNat := by decide

/-- AppliedIsJudged: the label in flight, the last failed label and neither. -/
theorem witness_applied :
    let s := withLabels [label1] true State.reset
    s.printer.inFlight = true ∧ s.labels.queue = label1 :: [] ∧
      s.bundles.dispatch.find? (fun r => r.bay == label1.bay) = some record1 ∧
      s.labels.requests = [] ∧ s.printer.ready = false ∧
      ({ State.reset.printer with lastFailed := some (4127, 0) } : PrinterPort).lastFailed =
        some ((4127 : BitVec 32).toNat, 0) ∧
      (∀ c, State.reset.printer.lastFailed ≠ some ((4127 : BitVec 32).toNat, c)) := by decide

/-- LabelsFail: the apply timer at its expiry and before it, and no label in flight. -/
theorem witness_labels_fail :
    let s : State := { withLabels [label1] true State.reset with now := 80000 }
    s.printer.inFlight = true ∧ s.printer.applyExpiry = some 80000 ∧ 80000 ≤ s.now ∧
      s.labels.requests = [] ∧ s.printer.ready = false ∧ 79999 < 80000 ∧
      State.reset.printer.inFlight = false := by decide

/-- AppliedIsJudged, what follows: two labels queued, READY seen, and bay 3 waiting for its label. -/
theorem witness_next_label :
    let q : DispatchRecord := { record1 with bay := 2, number := 9 }
    let s : State :=
      let s := withLabels [label1, label2] true State.reset
      { s with
        labels := { s.labels with requests := [2] }
        printer := { s.printer with ready := true }
        bundles := { s.bundles with dispatch := [record1, q] } }
    s.powered = true ∧ s.printer.inFlight = true ∧ s.printer.online = true ∧ s.printer.ready = true ∧
      s.labels.queue = label1 :: label2 :: [] ∧ s.labels.composing = none ∧
      s.labels.requests = 2 :: [] ∧ (2 : Bay) ≠ label1.bay ∧ (2 : Bay) ≠ label2.bay ∧
      s.bundles.dispatch.find? (fun r => r.bay == label1.bay) = some record1 ∧
      s.bundles.dispatch.find? (fun r => r.bay == 2) = some q := by decide

/-- PrinterGoesOffAndOn: ONLINE and OFFLINE, with and without a label in flight or a label waiting. -/
theorem witness_printer_requests :
    let off (s : State) : State := { s with printer := { s.printer with online := false } }
    let seen (s : State) : State := { s with printer := { s.printer with ready := true } }
    Listening (off State.reset) ∧ (off State.reset).printer.online = false ∧
      (off State.reset).printer.inFlight = false ∧ State.reset.printer.online = true ∧
      (withLabels [label1] true State.reset).labels.queue = label1 :: [] ∧
      State.reset.printer.ready = false ∧
      (seen (withLabels [label1] false State.reset)).printer.ready = true ∧
      (seen (withLabels [label1] false State.reset)).labels.queue = label1 :: [] :=
  ⟨⟨rfl, rfl⟩, rfl, rfl, rfl, rfl, rfl, rfl, rfl⟩

/-- PrinterGoesOffAndOn, the bays: a bay BLOCKED with its record at a reprint count of 255, one not BLOCKED and
one not GRADED, with a composition in flight. -/
theorem witness_blocked_bays :
    let s (st : BayState) : State :=
      let s := withBay st (bundle1 0 0) (composing (composition []))
      { s with bundles := { s.bundles with dispatch := [record1] } }
    Listening (s .blocked) ∧ (1 : Byte).toNat = (0 : Bay).val + 1 ∧ 12 < (13 : Byte).toNat ∧
      (s .blocked).cfg.bays[(0 : Bay)] = .graded { grade := 1, cls := 0 } ∧
      (s .blocked).sort.bays[(0 : Bay)].state = some .blocked ∧
      (s .closing).sort.bays[(0 : Bay)].state ≠ some .blocked ∧
      (s .blocked).bundles.dispatch.find? (fun q => q.bay == 0) = some record1 ∧
      (s .blocked).labels.composing ≠ none ∧
      State.reset.cfg.bays[(0 : Bay)] = .disabled := by
  simp only [Listening]
  decide +kernel

/-! ### Witnesses: the store, restarts and resets -/

/-- ConfigWritesAreJudged: sizes that fit and do not, a save in flight, a locked section in RUN, and a
LABEL slot of 0. -/
theorem witness_config_writes :
    Listening (inLine .run []) ∧ (27 : Byte).toNat ≤ 27 ∧ 27 < (28 : Byte).toNat ∧
      (List.replicate 53 (0 : Byte)).length = 53 ∧ (List.replicate 52 (0 : Byte)).length ≠ 53 ∧
      ({ State.reset.store with saving := some factoryDefaults } : ConfigStore).saving ≠ none ∧
      (inLine .run []).store.saving = none ∧ (inLine .run []).sup.line ≠ .start ∧
      (inLine .run []).sup.line ≠ .ready ∧ sectionOf 17 = some .label ∧
      firstRefused 2 (Section.label.forms [0, 2, 0])
        (readFields (Section.label.forms [0, 2, 0]) [0, 2, 0]) = some 2 := by
  simp only [Listening]
  decide +kernel

/-- SectionWritesTakeEffect: slots and timeouts at the edges of their ranges, a configuration that passes
the check and one that fails it, in START, READY and RUN; a target of 65,535 and a code of 2. -/
theorem witness_section_writes :
    let s (l : LineState) : State := withCfg (fun _ => goodConfig) (inLine l [])
    Listening (s .run) ∧ (s .run).store.saving = none ∧ (s .run).sup.line = .run ∧
      (s .run).sup.holds = [] ∧ 1 ≤ (1 : Byte).toNat ∧ (8 : Byte).toNat ≤ 8 ∧ 8 < (9 : Byte).toNat ∧
      2 ≤ (2 : Byte).toNat ∧ (60 : Byte).toNat ≤ 60 ∧ 60 < (61 : Byte).toNat ∧
      (s .ready).sup.line = .ready ∧ (s .start).sup.line = .start ∧
      checkResult { goodConfig with label := { goodConfig.label with slot := 0 } } = 0 ∧
      checkResult { goodConfig with label := { goodConfig.label with slot := 1 } } ≠ 0 ∧
      (5 : Byte).toNat ≤ 5 ∧ 5 < (6 : Byte).toNat ∧ 1 < (2 : Byte).toNat ∧
      (List.replicate 30 (0xFF : Byte)).length = 30 ∧
      1 < ((List.replicate 30 (0xFF : Byte)).getD 3 0).toNat ∧
      ((List.replicate 30 (0 : Byte)).getD 3 0).toNat ≤ 1 := by
  simp only [Listening]
  decide +kernel

/-- A table row of zeros but for some bytes. -/
def rowOf (n : Nat) (bytes : List (Nat × Byte)) : List Byte :=
  bytes.foldl (fun l b => l.set b.1 b.2) (List.replicate n 0)

/-- What CONFIG WRITE of a section answers for a body: the field refused, or none. -/
def fieldRefused (sec : Section) (bytes : List Byte) : Option Nat :=
  firstRefused 2 (sec.forms bytes) (readFields (sec.forms bytes) bytes)

/-- GradingTablesAreWritten: each section's body in range, and one with its last ranged field a unit outside:
LINE's settle distance 20 and 301, CLASSES' count 16 and 17, the last count limit of GRADES 15 and 16, the
last of PRICES 9999 and 10000, CUTTING's offset step 50 and 51. -/
theorem witness_grading_tables :
    let line (n : Byte) (m : Byte) := rowOf 53 [(0, 1), (1, 1), (2, 20), (41, 5), (42, n), (43, m)]
    let classes (n : Byte) := [0xB0, 4, 50, 0, n]
    let grades (n : Byte) := rowOf 193 [(0, 8), (192, n)]
    let prices (n : Byte) := rowOf 32 [(30, n), (31, 0x27)]
    let cutting (n : Byte) := [20, 60, 60, n]
    Listening State.reset ∧ State.reset.store.saving = none ∧ State.reset.sup.line = .start ∧
      (inLine .ready []).sup.line = .ready ∧
      fieldRefused .line (line 20 0) = none ∧ fieldRefused .line (line 0x2D 1) = some 25 ∧
      fieldRefused .classes (classes 16) = none ∧ fieldRefused .classes (classes 17) = some 4 ∧
      fieldRefused .grades (grades 15) = none ∧ fieldRefused .grades (grades 16) = some 106 ∧
      fieldRefused (.prices 7) (prices 0x0F) = none ∧
      fieldRefused (.prices 7) (prices 0x10) = some 17 ∧
      fieldRefused .cutting (cutting 50) = none ∧ fieldRefused .cutting (cutting 51) = some 5 := by
  simp only [Listening]
  decide +kernel

/-- HeadsBaysAndTextsAreWritten: codes 1 and 2; the roles of twelve bays, bay 1's unchanged, changed while
free and changed in use; slot 8 free and in use; and 144 bytes. -/
theorem witness_heads_bays_texts :
    let s := withBay .opened (OpenBundle.fresh { grade := 1, cls := 0 }) State.reset
    let off : List Byte := rowOf 36 ((List.range 12).map (fun i => (3 * i, 3)))
    ((List.replicate 82 (0 : Byte)).length = 82 ∧ (List.replicate 144 (0 : Byte)).length = 144 ∧
      fieldRefused .heads (rowOf 82 [(68, 1)]) = none ∧
      fieldRefused .heads (rowOf 82 [(68, 2)]) = some 50 ∧
      off.length = 36 ∧ fieldRefused .bays off = none ∧
      fieldRefused .bays ((off.set 33 0).set 35 16) = some 36 ∧
      fieldRefused .bays (((off.set 33 0).set 34 8).set 35 15) = none ∧
      fieldRefused .bays (((off.set 33 0).set 34 8).set 35 16) = some 37 ∧
      s.cfg.bays[(0 : Bay)] ≠ .disabled ∧ s.bayInUse 0 = false ∧
      (setBay 0 .filled s).bayInUse 0 = true ∧
      (composing { composition [12] with slot := 7 }).labels.composing.map (·.slot) = some 7) ∧
      (∀ c, State.reset.labels.composing = some c → c.slot ≠ 7) :=
  ⟨by decide +kernel, fun c h => (by cases h)⟩

/-- SectionsReadBack: the good configuration has every field in its range. -/
theorem witness_sections : ConfigFits goodConfig := by
  simp only [ConfigFits, LineFits, NameFits, HeadFits]
  have free : ∀ r ∈ goodConfig.bays.toList, r = .disabled := by decide +kernel
  have roles : ∀ r ∈ goodConfig.bays.toList, RoleFits r := by
    intro r h
    rw [free r h]
    trivial
  repeat' apply And.intro
  all_goals first
    | exact roles
    | decide +kernel

/-- Two sections of the good configuration read and written back (R190, R195). -/
theorem test_sections_read_back :
    writtenConfig .line (Section.bytes goodConfig .line) goodConfig = goodConfig ∧
      writtenConfig .translateHigh (Section.bytes goodConfig .translateHigh) goodConfig = goodConfig := by
  decide +kernel

/-- SavesAndRestartsAreJudged: a save in flight and none, and every ground for refusing RESTART. -/
theorem witness_saves :
    let saving : State :=
      { State.reset with store := { State.reset.store with saving := some factoryDefaults } }
    Listening saving ∧ saving.store.saving = some factoryDefaults ∧ State.reset.store.saving = none ∧
      factoryDefaults.imageCrc = factoryDefaults.imageCrc ∧
      factoryDefaults.imageCrc + 1 ≠ factoryDefaults.imageCrc ∧
      State.reset.sup.line = .start ∧ State.reset.track.strips = [] ∧
      (inLine .run []).sup.line ≠ .start ∧ (withStrips [strip1] State.reset).track.strips ≠ [] ∧
      (withBay .closing (bundle1 0 0) State.reset).sort.bays[(0 : Bay)].state = some .closing ∧
      (∀ b : Bay, State.reset.sort.bays[b].state = none) ∧
      ({ State.reset.store with restart := .due } : ConfigStore).restart ≠ .none :=
  ⟨⟨rfl, rfl⟩, rfl, rfl, rfl, by simp, rfl, rfl, by decide, by decide, by decide, by decide,
    by decide⟩

/-- A RESTART served between the first RESTART reply's last byte and the restart leaves it due, so that the
BUSY refusals behind that reply are not sent (R183). -/
theorem test_restart_stays_due :
    let s : State :=
      { State.reset with store := { State.reset.store with restart := .due } }
    (serveRestart [] s).1.store.restart = .due ∧ (serveRestart [] s).2 = .accepted [] := by decide

/-- ResetsStartThePart: a restart due, and none. -/
theorem witness_restart :
    State.reset.powered = true ∧ State.reset.store.restart ≠ .due ∧
      ({ State.reset.store with restart := .due } : ConfigStore).restart = .due := by decide

/-- A restart from a stored image that passes the check leaves the line in READY (R193, R194). -/
theorem test_restart_ready :
    let s : State :=
      { State.reset with
        store := { State.reset.store with image := some goodConfig, restart := .due } }
    (restartWhenDue s).sup.line = .ready ∧ (restartWhenDue s).sup.resetCause = .restart := by
  decide +kernel

/-- ResetsStartThePart: with supply and without, serials fresh. -/
theorem witness_hardware_reset :
    State.reset.powered = true ∧ ({ State.reset with powered := false } : State).powered = false := by
  decide

/-- A reset while SAVING finds no stored image (R192). -/
theorem test_reset_while_saving :
    imageLeft { State.reset.store with image := some goodConfig, saving := some goodConfig } = none :=
  rfl

/-- StepsKeep…: a part in FAILSAFE with one record and HOST in the set has every promise, and can step. -/
theorem witness_invariants :
    let s : State :=
      let s := withStrips [strip1] (inLine .failsafe [.host])
      { s with
        track :=
          { s.track with nextSerial := 1, nextNumber := 2, stats := { s.track.stats with admitted := 1 } } }
    LineInv s ∧ TrackAccounts s ∧ TrackNumbers s ∧ LinkInv s ∧ LabelInv s ∧ SerialsFresh s ∧
      dueEvent s = none := by
  simp only [LineInv, HoldsMatchLine, MonitorsMatchLine, HoldEffectiveExact, TrackAccounts,
    TrackNumbers, LinkInv, LabelInv, SerialsFresh]
  decide +kernel

end Sys2Proof.Tests
end

/-! ## The track's account and the travel's frame

What a count starts reaches into every block. Two observations of a state are kept apart from all that:
the `Ledger`, what R5, R10 and R20 speak of, and the `Course`, what only the wheels, the requests and the
printer's line move. An operation on a record in the track keeps both; one that a record enters or leaves
the track by moves the ledger alone. -/

namespace Sys2Proof.Machine

/-! ### The ledger of the track (R5, R10, R20) -/

/-- What tells a record apart: its serial and its strip number. -/
def Strip.entry (r : Strip) : Nat × StripNo := (r.serial, r.number)

/-- The records of the track by serial and number, the next of each to be given, and the two sides of
R20's account beside the track: the records that have come, and those that have gone. -/
structure Ledger where
  entries : List (Nat × StripNo)
  nextNumber : StripNo
  nextSerial : Nat
  come : Count32
  gone : Count32

/-- The records that have come to the track (R20). -/
def Statistics.come (st : Statistics) : Count32 := st.admitted + st.phantom

/-- The records that have gone from the track (R20). -/
def Statistics.gone (st : Statistics) : Count32 :=
  st.bundled + st.regrade + st.mixed + st.reject + st.lost

/-- The ledger of a state. -/
def State.ledger (s : State) : Ledger :=
  { entries := s.track.strips.map Strip.entry
    nextNumber := s.track.nextNumber
    nextSerial := s.track.nextSerial
    come := s.track.stats.come
    gone := s.track.stats.gone }

/-- The serials of the records in the track. -/
def Ledger.serials (l : Ledger) : List Nat := l.entries.map (·.1)

/-- The strip numbers in the track, phantoms' left out. -/
def Ledger.numbers (l : Ledger) : List StripNo := (l.entries.map (·.2)).filter (· != 0)

/-- The account balances, and serials and numbers are in order. -/
structure Ledger.Sound (l : Ledger) : Prop where
  serials_nodup : l.serials.Nodup
  serials_fresh : ∀ id ∈ l.serials, id < l.nextSerial
  balance : l.come = BitVec.ofNat 32 l.entries.length + l.gone
  room : l.entries.length ≤ 64
  numbers_nodup : l.numbers.Nodup
  next_ne_zero : l.nextNumber ≠ 0

theorem State.ledger_serials (s : State) : s.ledger.serials = s.track.strips.map (·.serial) := by
  simp [State.ledger, Ledger.serials, Strip.entry, Function.comp_def]

theorem State.ledger_numbers (s : State) :
    s.ledger.numbers = (s.track.strips.map (·.number)).filter (· != 0) := by
  simp [State.ledger, Ledger.numbers, Strip.entry, Function.comp_def]

/-- The promises about the strip track are those of its ledger. -/
theorem State.ledger_sound_iff (s : State) : s.ledger.Sound ↔ TrackAccounts s ∧ TrackNumbers s := by
  have hbalance : s.ledger.come = BitVec.ofNat 32 s.ledger.entries.length + s.ledger.gone ↔
      s.track.stats.admitted + s.track.stats.phantom =
        BitVec.ofNat 32 s.track.strips.length + s.track.stats.bundled + s.track.stats.regrade +
          s.track.stats.mixed + s.track.stats.reject + s.track.stats.lost := by
    simp [State.ledger, Statistics.come, Statistics.gone, BitVec.add_assoc]
  have hlength : s.ledger.entries.length = s.track.strips.length := by simp [State.ledger]
  constructor
  · rintro ⟨hnodup, hfresh, hbal, hroom, hnumbers, hnext⟩
    rw [State.ledger_serials] at hnodup hfresh
    exact ⟨⟨hnodup, fun r hr => hfresh _ (List.mem_map_of_mem hr), hbalance.1 hbal⟩,
      hlength ▸ hroom, State.ledger_numbers s ▸ hnumbers, hnext⟩
  · rintro ⟨⟨hnodup, hfresh, hbal⟩, hroom, hnumbers, hnext⟩
    refine ⟨State.ledger_serials s ▸ hnodup, ?_, hbalance.2 hbal, hlength ▸ hroom,
      State.ledger_numbers s ▸ hnumbers, hnext⟩
    rw [State.ledger_serials, List.forall_mem_map]
    exact hfresh

theorem ofNat32_succ (n : Nat) : BitVec.ofNat 32 (n + 1) = BitVec.ofNat 32 n + 1 :=
  BitVec.ofNat_add n 1

/-- A record that enters under the next serial, with number 0 or one no record holds, keeps the ledger
sound, wherever in the track it is put. -/
theorem Ledger.Sound.enter {l l' : Ledger} {n : StripNo} (h : l.Sound)
    (hentries : l'.entries.Perm ((l.nextSerial, n) :: l.entries)) (hn : n = 0 ∨ n ∉ l.numbers)
    (hroom : l.entries.length < 64) (hserial : l'.nextSerial = l.nextSerial + 1)
    (hnext : l'.nextNumber ≠ 0) (hcome : l'.come = l.come + 1) (hgone : l'.gone = l.gone) :
    l'.Sound := by
  have hlength : l'.entries.length = l.entries.length + 1 := by simpa using hentries.length_eq
  have hserials : l'.serials.Perm (l.nextSerial :: l.serials) := by
    simpa [Ledger.serials] using hentries.map (·.1)
  have hnumbers : l'.numbers.Perm (((n :: l.entries.map (·.2))).filter (· != 0)) := by
    simpa [Ledger.numbers] using (hentries.map (·.2)).filter (· != 0)
  refine ⟨?_, ?_, ?_, by omega, ?_, hnext⟩
  · rw [hserials.nodup_iff, List.nodup_cons]
    exact ⟨fun hmem => absurd (h.serials_fresh _ hmem) (Nat.lt_irrefl _), h.serials_nodup⟩
  · intro id hid
    rcases List.mem_cons.1 (hserials.mem_iff.1 hid) with rfl | hold
    · omega
    · have := h.serials_fresh id hold; omega
  · rw [hcome, hgone, hlength, h.balance, ofNat32_succ, BitVec.add_assoc, BitVec.add_assoc,
      BitVec.add_comm 1]
  · rw [hnumbers.nodup_iff]
    by_cases hzero : n = 0
    · simpa [hzero, Ledger.numbers] using h.numbers_nodup
    · rw [List.filter_cons_of_pos (by simpa using hzero), List.nodup_cons]
      exact ⟨hn.resolve_left hzero, h.numbers_nodup⟩

/-- A record that leaves keeps the ledger sound, when it is counted as gone or taken back from those that
have come. -/
theorem Ledger.Sound.leave {l l' : Ledger} {id : Nat} (h : l.Sound) (hid : id ∈ l.serials)
    (hentries : l'.entries = l.entries.filter (fun e => e.1 != id))
    (hserial : l'.nextSerial = l.nextSerial) (hnext : l'.nextNumber = l.nextNumber)
    (hcount : l'.come + l.gone + 1 = l.come + l'.gone) : l'.Sound := by
  have hserials : l'.serials = l.serials.erase id := by
    rw [h.serials_nodup.erase_eq_filter, Ledger.serials, hentries, Ledger.serials, List.filter_map]
    rfl
  have hlength : l'.entries.length + 1 = l.entries.length := by
    have hpos : 0 < l.serials.length := List.length_pos_of_mem hid
    have herase := List.length_erase_of_mem hid
    have : l'.serials.length = l'.entries.length := by simp [Ledger.serials]
    have : l.serials.length = l.entries.length := by simp [Ledger.serials]
    rw [← hserials] at herase
    omega
  have hsub : l'.entries.Sublist l.entries := hentries ▸ List.filter_sublist
  refine ⟨hserials ▸ h.serials_nodup.erase id, ?_, ?_, by have := h.room; omega, ?_,
    hnext ▸ h.next_ne_zero⟩
  · intro k hk
    rw [hserial]
    exact h.serials_fresh k (List.mem_of_mem_erase (hserials ▸ hk))
  · have hbal := h.balance
    rw [← hlength] at hbal
    rw [hbal, ofNat32_succ] at hcount
    have hsame : l'.come + (l.gone + 1) =
        BitVec.ofNat 32 l'.entries.length + l'.gone + (l.gone + 1) := by
      rw [← BitVec.add_assoc, hcount]
      ac_rfl
    exact (BitVec.add_left_inj _).1 hsame
  · exact h.numbers_nodup.sublist ((hsub.map _).filter _)

/-! ### The course of the wheels, and the outline of a state -/

/-- What a record's business on the line, and its coming and going, leave alone: what the encoder and the
interval timer move, the printer, the configuration, and the replies and masks of the link. -/
structure Course where
  encA : Bool
  encB : Bool
  travel : Travel
  remainder : Int
  countsInForce : Nat
  speed : Nat
  intervalStart : Travel
  intervalEnd : Nat
  printer : PrinterPort
  store : ConfigStore
  replies : List Reply
  masks : BitVec 24

/-- The course of a state; the result of the last check is left out, since the completion of a stop makes
one (R31). -/
def State.course (s : State) : Course :=
  { encA := s.track.encA, encB := s.track.encB, travel := s.track.travel
    remainder := s.track.remainder, countsInForce := s.track.countsInForce, speed := s.track.speed
    intervalStart := s.track.intervalStart, intervalEnd := s.track.intervalEnd
    printer := s.printer, store := { s.store with lastCheck := 0 }
    replies := s.link.replies, masks := s.link.masks }

/-- The ledger and the course together. -/
def State.outline (s : State) : Ledger × Course := (s.ledger, s.course)

theorem State.ledger_of_outline {s t : State} (h : t.outline = s.outline) : t.ledger = s.ledger :=
  congrArg Prod.fst h

theorem State.course_of_outline {s t : State} (h : t.outline = s.outline) : t.course = s.course :=
  congrArg Prod.snd h

/-- The whole Track Unit and the course: what an operation of another block leaves alone. -/
def State.frame (s : State) : TrackUnit × Course := (s.track, s.course)

theorem State.track_of_frame {s t : State} (h : t.frame = s.frame) : t.track = s.track :=
  congrArg Prod.fst h

theorem State.course_of_frame {s t : State} (h : t.frame = s.frame) : t.course = s.course :=
  congrArg Prod.snd h

/-- The ledger is read off the Track Unit. -/
theorem State.ledger_congr {s t : State} (h : t.track = s.track) : t.ledger = s.ledger := by
  simp only [State.ledger, h]

theorem State.ledger_of_frame {s t : State} (h : t.frame = s.frame) : t.ledger = s.ledger :=
  State.ledger_congr (State.track_of_frame h)

theorem State.outline_of_frame {s t : State} (h : t.frame = s.frame) : t.outline = s.outline :=
  Prod.ext (State.ledger_of_frame h) (State.course_of_frame h)

/-! ### Shared operations -/

theorem give_frame (n : Notice) (s : State) : (give n s).frame = s.frame := by
  simp [State.frame, State.course]

theorem give_outline (n : Notice) (s : State) : (give n s).outline = s.outline :=
  State.outline_of_frame (give_frame n s)

/-- A change of the records of a serial that leaves serial and number alone. -/
theorem modifySerial_outline (id : Nat) (f : Strip → Strip) (s : State)
    (hf : ∀ r, (f r).entry = r.entry) : (modifySerial id f s).outline = s.outline := by
  have hentries : s.track.strips.map (fun r => (if r.serial == id then f r else r).entry) =
      s.track.strips.map Strip.entry :=
    List.map_congr_left fun r _ => by split <;> simp [hf]
  simp only [State.outline, State.ledger, State.course, modifySerial_track, List.map_map,
    Function.comp_def, hentries]
  rfl

theorem modifyNumber_outline (n : StripNo) (f : Strip → Strip) (s : State)
    (hf : ∀ r, (f r).entry = r.entry) : (modifyNumber n f s).outline = s.outline := by
  have hentries :
      s.track.strips.map (fun r => (if r.number == n && n != 0 then f r else r).entry) =
        s.track.strips.map Strip.entry :=
    List.map_congr_left fun r _ => by split <;> simp [hf]
  simp only [State.outline, State.ledger, State.course, modifyNumber_track, List.map_map,
    Function.comp_def, hentries]
  rfl

theorem refreshEffective_frame (s : State) : (refreshEffective s).frame = s.frame := by
  unfold refreshEffective
  dsimp only
  split
  · exact give_frame _ _
  · rfl

theorem placeLine_frame (st : LineState) (s : State) : (placeLine st s).frame = s.frame := by
  rw [placeLine_eq]
  rfl

theorem reportLine_frame (s : State) : (reportLine s).frame = s.frame :=
  (refreshEffective_frame _).trans (give_frame _ _)

theorem changeLine_frame (st : LineState) (s : State) : (changeLine st s).frame = s.frame := by
  unfold changeLine
  split
  · rfl
  · exact (reportLine_frame _).trans (placeLine_frame _ _)

theorem addHold_frame (h : HoldSource) (s : State) : (addHold h s).frame = s.frame := by
  unfold addHold
  dsimp only
  split
  · rfl
  · split
    · exact changeLine_frame _ _
    · rfl

theorem removeHold_frame (h : HoldSource) (s : State) : (removeHold h s).frame = s.frame := by
  unfold removeHold
  dsimp only
  split
  · split
    · exact changeLine_frame _ _
    · rfl
  · rfl

/-! ### Bundles and the end of a stop (R31, R134 to R138) -/

theorem composerBegin_frame (s : State) : (composerBegin s).frame = s.frame := by
  unfold composerBegin
  split
  · split
    · dsimp only
      split <;> rfl
    · rfl
  · rfl

theorem closeBundle_frame (b : Bay) (o : OpenBundle) (reason : CloseReason) (s : State) :
    (closeBundle b o reason s).frame = s.frame :=
  (composerBegin_frame _).trans (give_frame _ _)

theorem closeTest_frame (b : Bay) (s : State) : (closeTest b s).frame = s.frame := by
  unfold closeTest
  split
  · split
    · exact closeBundle_frame _ _ _ _
    · rfl
  · rfl

theorem dropInto_frame (b : Bay) (n : StripNo) (s : State) :
    (dropInto b n s).frame = s.frame := by
  unfold dropInto
  split
  · rfl
  · exact closeTest_frame _ _

theorem commitTo_frame (b : Bay) (s : State) : (commitTo b s).frame = s.frame := by
  unfold commitTo
  split
  · rfl
  · dsimp only
    split <;> rfl

theorem runEndBay_frame (s : State) (b : Bay) : (runEndBay s b).frame = s.frame := by
  unfold runEndBay
  split
  · split
    · exact closeBundle_frame _ _ _ _
    · rfl
  · rfl

/-- A fold of steps that each keep an observation keeps it. -/
theorem foldl_keeps {α β γ : Type} (o : β → γ) (f : β → α → β) (h : ∀ s a, o (f s a) = o s)
    (xs : List α) (s : β) : o (xs.foldl f s) = o s := by
  induction xs generalizing s with
  | nil => rfl
  | cons x xs ih => exact (ih _).trans (h s x)

theorem runEndClosure_frame (s : State) : (runEndClosure s).frame = s.frame := by
  unfold runEndClosure
  split
  · exact foldl_keeps _ _ runEndBay_frame _ _
  · rfl

theorem completeStop_frame (s : State) : (completeStop s).frame = s.frame := by
  unfold completeStop
  dsimp only
  refine (reportLine_frame _).trans ?_
  split
  · exact (placeLine_frame _ _).trans (runEndClosure_frame s)
  · exact (placeLine_frame _ _).trans
      ((placeLine_frame _ _).trans (runEndClosure_frame s))

theorem stopTest_frame (s : State) : (stopTest s).frame = s.frame := by
  unfold stopTest
  split
  · exact completeStop_frame s
  · rfl

theorem afterCount_frame (s : State) : (afterCount s).frame = s.frame := by
  unfold afterCount
  dsimp only
  refine (stopTest_frame _).trans ((refreshEffective_frame _).trans ?_)
  split
  · exact addHold_frame _ _
  · exact removeHold_frame _ _

theorem afterCount_outline (s : State) : (afterCount s).outline = s.outline :=
  State.outline_of_frame (afterCount_frame s)

@[simp] theorem afterCount_track (s : State) : (afterCount s).track = s.track :=
  State.track_of_frame (afterCount_frame s)

/-! ### The converter and suspect strips (R96 to R103) -/

theorem endCheck_frame (s : State) : (endCheck s).frame = s.frame :=
  (give_frame _ _).trans (removeHold_frame _ _)

theorem moveCursor_frame (i : Nat) (s : State) : (moveCursor i s).frame = s.frame := by
  unfold moveCursor
  split
  · rfl
  · exact endCheck_frame s

theorem takeRequest_frame (fuel : Nat) (s : State) : (takeRequest fuel s).frame = s.frame := by
  induction fuel generalizing s with
  | zero => rfl
  | succ fuel ih =>
    unfold takeRequest
    split
    · rfl
    · dsimp only
      split
      · split <;> rfl
      · split
        · rfl
        · split
          · exact (ih _).trans (moveCursor_frame _ _)
          · exact ih _

theorem converterNext_frame (s : State) : (converterNext s).frame = s.frame := by
  unfold converterNext
  split
  · exact takeRequest_frame _ s
  · rfl

theorem placeRequests_frame (rs : List ConvRequest) (s : State) :
    (placeRequests rs s).frame = s.frame := converterNext_frame _

theorem markSuspect_outline (n : Head) (report : Bool) (r : Strip) (s : State) :
    (markSuspect n report r s).outline = s.outline := by
  unfold markSuspect
  dsimp only
  split
  · split
    · exact give_outline _ _
    · rfl
  · split
    · exact modifySerial_outline _ _ s fun _ => rfl
    · rfl

theorem markAtSample_outline (heads : List Head) (r : Strip) (s : State) :
    (markAtSample heads r s).outline = s.outline := by
  unfold markAtSample
  split
  · rfl
  · refine foldl_keeps _ _ (fun u n => ?_) _ _
    split
    · split
      · exact markSuspect_outline _ _ _ _
      · rfl
    · rfl

theorem moulderSlice_frame (r : Strip) (s : State) : (moulderSlice r s).frame = s.frame := by
  rcases moulderSlice_cases r s with ⟨_, h⟩ | ⟨_, _, h⟩ | ⟨_, _, h⟩ <;> rw [h]
  · rfl
  · exact placeRequests_frame _ _

theorem endMatchSlice_frame (r : Strip) (s : State) : (endMatchSlice r s).frame = s.frame := by
  rcases endMatchSlice_cases r s with ⟨_, h⟩ | ⟨_, _, h⟩ | ⟨_, _, h⟩ <;> rw [h]
  · rfl
  · exact placeRequests_frame _ _

/-! ### Grading (R64 to R66, R76 to R79) -/

theorem engineBegin_outline (s : State) : (engineBegin s).outline = s.outline := by
  unfold engineBegin
  split
  · dsimp only
    split
    · exact modifyNumber_outline _ _ s fun _ => rfl
    · rfl
  · rfl

theorem withdrawEntry_frame (n : StripNo) (s : State) : (withdrawEntry n s).frame = s.frame := by
  rcases withdrawEntry_cases n s with ⟨_, h⟩ | ⟨_, h⟩ <;> rw [h]
  rfl

theorem offer_outline (n : StripNo) (s : State) : (offer n s).outline = s.outline := by
  unfold offer
  split
  · exact (engineBegin_outline _).trans (modifyNumber_outline _ _ s fun _ => rfl)
  · rfl

theorem writePlan_outline (r : Strip) (p : CutPlan) (ev : EvalState) (s : State) :
    (writePlan r p ev s).outline = s.outline :=
  modifySerial_outline _ _ s fun _ => rfl

theorem countLate_outline (r : Strip) (p : CutPlan) (c : LateCase) (s : State) :
    (countLate r p c s).outline = s.outline := by
  unfold countLate
  split
  · rfl
  · exact give_outline _ _

theorem lateDefault_outline (r : Strip) (len : Nat) (c : LateCase) (ev : EvalState) (s : State) :
    (lateDefault r len c ev s).outline = s.outline :=
  (countLate_outline _ _ _ _).trans (writePlan_outline _ _ _ s)

theorem writeDecision_outline (r : Strip) (s : State) : (writeDecision r s).outline = s.outline := by
  unfold writeDecision
  split
  · exact writePlan_outline _ _ _ s
  · split
    · exact writePlan_outline _ _ _ s
    · split
      · exact writePlan_outline _ _ _ s
      · exact lateDefault_outline _ _ _ _ s
      · exact lateDefault_outline _ _ _ _ s
      · split
        · exact writePlan_outline _ _ _ s
        · exact writePlan_outline _ _ _ s
        · exact lateDefault_outline _ _ _ _ s
        · exact writePlan_outline _ _ _ s

theorem decidePlan_outline (r : Strip) (s : State) : (decidePlan r s).outline = s.outline :=
  (engineBegin_outline _).trans (writeDecision_outline r s)

theorem offerWaiting_outline (id : Nat) (s : State) : (offerWaiting id s).outline = s.outline := by
  unfold offerWaiting
  split
  · split
    · exact offer_outline _ s
    · rfl
  · rfl

/-! ### Orders (R84, R88, R89) -/

theorem sendOrder_outline (r : Strip) (s : State) : (sendOrder r s).outline = s.outline := by
  unfold sendOrder
  split
  · rfl
  · exact modifySerial_outline _ _ s fun _ => rfl

theorem confirmationDeadline_outline (r : Strip) (s : State) :
    (confirmationDeadline r s).outline = s.outline := by
  unfold confirmationDeadline
  split
  · exact (give_outline _ _).trans
      (modifySerial_outline r.serial (fun q => { q with cut := .unconfirmed }) s fun _ => rfl)
  · rfl

theorem withdrawOrder_frame (r : Strip) (s : State) : (withdrawOrder r s).frame = s.frame := by
  unfold withdrawOrder
  split <;> rfl

/-! ### Assignment, gates and the owners of a drop (R115 to R124) -/

theorem moveTransit_frame (f : Nat → Nat) (d : Destination) (s : State) :
    (moveTransit f d s).frame = s.frame := by
  unfold moveTransit
  split <;> rfl

theorem commitDestination_frame (d : Destination) (s : State) :
    (commitDestination d s).frame = s.frame := by
  unfold commitDestination
  split
  · exact commitTo_frame _ s
  · rfl

theorem countFallback_frame (n : StripNo) (rt : Route) (d : Destination) (s : State) :
    (countFallback n rt d s).frame = s.frame := by
  unfold countFallback
  split
  · rfl
  · exact give_frame _ _
  · exact give_frame _ _
  · rfl

theorem assign_outline (r : Strip) (s : State) : (assign r s).outline = s.outline :=
  (State.outline_of_frame <| (countFallback_frame _ _ _ _).trans <|
    (commitDestination_frame _ _).trans (moveTransit_frame _ _ _)).trans
      (modifySerial_outline _ _ s fun _ => rfl)

theorem judgeChute_frame (s : State) : (judgeChute s).frame = s.frame := by
  unfold judgeChute
  split
  · exact (give_frame _ _).trans (addHold_frame _ s)
  · rfl

theorem ownDrop_frame (d : Destination) (n : StripNo) (s : State) :
    (ownDrop d n s).frame = s.frame := by
  unfold ownDrop
  split
  · exact dropInto_frame _ _ s
  · split <;> rfl
  · split <;> rfl
  · exact judgeChute_frame _

theorem reachBay_frame (r : Strip) (s : State) : (reachBay r s).frame = s.frame := by
  unfold reachBay
  split
  · split <;> rfl
  · rfl

/-! ### Announcements and decisions (R47, R76) -/

theorem announce_outline (r : Strip) (s : State) : (announce r s).outline = s.outline := by
  unfold announce
  split
  · rfl
  · exact modifySerial_outline _ _ s fun _ => rfl

theorem decisionPoint_outline (r : Strip) (s : State) : (decisionPoint r s).outline = s.outline := by
  unfold decisionPoint
  split
  · rfl
  · dsimp only
    split
    · exact (sendOrder_outline _ _).trans (decidePlan_outline r s)
    · exact decidePlan_outline r s

end Sys2Proof.Machine

namespace Sys2Proof.Machine

/-! ### What keeps the account -/

/-- From `s` to `t` the course is kept, and the ledger stays sound. -/
structure State.Keeps (s t : State) : Prop where
  course : t.course = s.course
  sound : s.ledger.Sound → t.ledger.Sound

theorem State.Keeps.refl (s : State) : s.Keeps s := ⟨rfl, id⟩

theorem State.Keeps.trans {s t u : State} (h : s.Keeps t) (h' : t.Keeps u) : s.Keeps u :=
  ⟨h'.course.trans h.course, h'.sound ∘ h.sound⟩

theorem State.Keeps.of_outline {s t : State} (h : t.outline = s.outline) : s.Keeps t :=
  ⟨State.course_of_outline h, fun hs => State.ledger_of_outline h ▸ hs⟩

/-- What keeps the account from a state keeps it from any of the same outline. -/
theorem State.Keeps.after {s t u : State} (h : u.Keeps t) (hu : u.outline = s.outline) : s.Keeps t :=
  (State.Keeps.of_outline hu).trans h

theorem State.Keeps.foldl {α : Type} (f : State → α → State)
    (h : ∀ (s : State) (a : α), s.Keeps (f s a)) (xs : List α) (s : State) : s.Keeps (xs.foldl f s) := by
  induction xs generalizing s with
  | nil => exact .refl s
  | cons x xs ih => exact (h s x).trans (ih _)

/-- The record found by its serial is in the track. -/
theorem stripSerial_mem {s : State} {id : Nat} {r : Strip} (h : s.stripSerial id = some r) :
    r ∈ s.track.strips ∧ r.serial = id :=
  ⟨List.mem_of_find?_eq_some h, by simpa using List.find?_some h⟩

theorem candidate_mem {s : State} {r : Strip} (h : s.candidate = some r) : r ∈ s.track.strips :=
  List.mem_of_find?_eq_some h

theorem serial_mem_ledger {s : State} {r : Strip} (h : r ∈ s.track.strips) :
    r.serial ∈ s.ledger.serials := by
  rw [State.ledger_serials]
  exact List.mem_map_of_mem h

/-! ### Records leave (R6, R16, R18, R19) -/

theorem withdrawScan_frame (n : StripNo) (s : State) : (withdrawScan n s).frame = s.frame := by
  unfold withdrawScan
  dsimp only
  split <;> rfl

@[simp] theorem withdrawScan_track (n : StripNo) (s : State) : (withdrawScan n s).track = s.track :=
  State.track_of_frame (withdrawScan_frame n s)

@[simp] theorem withdrawOrder_track (r : Strip) (s : State) : (withdrawOrder r s).track = s.track :=
  State.track_of_frame (withdrawOrder_frame r s)

@[simp] theorem withdrawEntry_track (n : StripNo) (s : State) : (withdrawEntry n s).track = s.track :=
  State.track_of_frame (withdrawEntry_frame n s)

@[simp] theorem withdrawRequests_track (n : StripNo) (s : State) :
    (withdrawRequests n s).track = s.track := rfl

@[simp] theorem moveTransit_track (f : Nat → Nat) (d : Destination) (s : State) :
    (moveTransit f d s).track = s.track :=
  State.track_of_frame (moveTransit_frame f d s)

/-- The Track Unit's part of a record's leaving: the record, and its place in admission. -/
@[simp] theorem leaveTrack_track (r : Strip) (s : State) :
    (leaveTrack r s).track =
      { s.track with
        strips := s.track.strips.filter (fun q => q.serial != r.serial)
        inAdmission :=
          if s.track.inAdmission == some r.serial then none else s.track.inAdmission } := by
  unfold leaveTrack
  dsimp only
  split <;> simp

theorem leaveTrack_course (r : Strip) (s : State) : (leaveTrack r s).course = s.course := by
  have hwithdrawn (u : State) :
      (withdrawEntry r.number (withdrawRequests r.number
        (withdrawOrder r (withdrawScan r.number u)))).frame = u.frame :=
    (withdrawEntry_frame _ _).trans <| (withdrawOrder_frame _ _).trans (withdrawScan_frame _ _)
  unfold leaveTrack
  dsimp only
  split
  · exact (State.course_of_frame ((moveTransit_frame _ _ _).trans (hwithdrawn _))).trans rfl
  · exact (State.course_of_frame (hwithdrawn _)).trans rfl

/-- A state with other statistics. -/
def withStats (st : Statistics) (s : State) : State := { s with track := { s.track with stats := st } }

/-- A record leaves and the statistics take it out of the account, and nothing else of the outline
changes. -/
theorem State.Keeps.leave {r : Strip} {s t : State} {st : Statistics} (hr : r ∈ s.track.strips)
    (hst : st.come + s.track.stats.gone + 1 = s.track.stats.come + st.gone)
    (ht : t.outline = (withStats st (leaveTrack r s)).outline) : s.Keeps t := by
  refine ⟨(State.course_of_outline ht).trans (leaveTrack_course r s), fun hs => ?_⟩
  rw [State.ledger_of_outline ht]
  refine hs.leave (serial_mem_ledger hr) ?_ ?_ ?_ hst
  · simp [State.ledger, withStats, Strip.entry, List.filter_map, Function.comp_def]
  · simp [State.ledger, withStats]
  · simp [State.ledger, withStats]

theorem loseRecord_keeps {r : Strip} {s : State} (hr : r ∈ s.track.strips) :
    s.Keeps (loseRecord r s) := by
  refine .leave (st := { s.track.stats with lost := s.track.stats.lost + 1 }) hr ?_
    ((afterCount_outline _).trans ((give_outline _ _).trans ?_))
  · simp only [Statistics.come, Statistics.gone]
    ac_rfl
  · simp [withStats]

theorem removeChip_keeps {r : Strip} {s : State} (hr : r ∈ s.track.strips) :
    s.Keeps (removeChip r s) := by
  refine .leave (st := { s.track.stats with admitted := s.track.stats.admitted - 1 }) hr ?_
    ((afterCount_outline _).trans ?_)
  · simp only [Statistics.come, Statistics.gone]
    grind
  · simp [withStats]

/-- The statistics after a drop into a destination (R18). -/
def Statistics.dropped (d : Destination) (st : Statistics) : Statistics :=
  match d with
  | .gradedBay _ => { st with bundled := st.bundled + 1 }
  | .regradeBin _ => { st with regrade := st.regrade + 1 }
  | .mixedBin _ => { st with mixed := st.mixed + 1 }
  | .endChute => { st with reject := st.reject + 1 }

theorem countDrop_eq (d : Destination) (s : State) :
    countDrop d s = withStats (s.track.stats.dropped d) s := by
  cases d <;> rfl

/-- Every destination's counter is on the side of the records that have gone (R18, R20). -/
theorem Statistics.dropped_balance (d : Destination) (st : Statistics) :
    (st.dropped d).come + st.gone + 1 = st.come + (st.dropped d).gone := by
  cases d <;> simp only [Statistics.dropped, Statistics.come, Statistics.gone] <;> ac_rfl

theorem dropRecord_keeps {r : Strip} {s : State} (d : Destination) (hr : r ∈ s.track.strips) :
    s.Keeps (dropRecord r d s) := by
  refine .leave (st := s.track.stats.dropped d) hr (Statistics.dropped_balance d _)
    ((afterCount_outline _).trans ((State.outline_of_frame (ownDrop_frame _ _ _)).trans ?_))
  rw [countDrop_eq, leaveTrack_track]

/-! ### The number to be given (R5) -/

theorem numberAfter_toNat {n : StripNo} (h : n ≠ 0) :
    (numberAfter n).toNat = n.toNat % 65535 + 1 := by
  unfold numberAfter
  have hpos : n.toNat ≠ 0 := fun h0 => h (BitVec.eq_of_toNat_eq h0)
  split
  · subst n; rfl
  · rename_i hmax
    have : n.toNat ≠ 65535 := fun h1 => hmax (BitVec.eq_of_toNat_eq h1)
    have := n.isLt
    have hone : (1 : StripNo).toNat = 1 := rfl
    rw [BitVec.toNat_add]
    omega

theorem numberAfter_ne_zero {n : StripNo} (h : n ≠ 0) : numberAfter n ≠ 0 := by
  intro h0
  have := numberAfter_toNat h
  rw [h0] at this
  simp at this

/-- The i-th number after a number. -/
def numberOn : Nat → StripNo → StripNo
  | 0, n => n
  | i + 1, n => numberOn i (numberAfter n)

/-- The numbers go round from 65535 to 1. -/
theorem numberOn_toNat {n : StripNo} (h : n ≠ 0) (i : Nat) :
    (numberOn i n).toNat = (n.toNat - 1 + i) % 65535 + 1 := by
  induction i generalizing n with
  | zero =>
    have hpos : n.toNat ≠ 0 := fun h0 => h (BitVec.eq_of_toNat_eq h0)
    have := n.isLt
    simp only [numberOn]
    omega
  | succ i ih =>
    have hpos : n.toNat ≠ 0 := fun h0 => h (BitVec.eq_of_toNat_eq h0)
    have := n.isLt
    rw [numberOn, ih (numberAfter_ne_zero h), numberAfter_toNat h]
    omega

theorem freeNumber_ne_zero (held : List StripNo) (fuel : Nat) {n : StripNo} (h : n ≠ 0) :
    freeNumber held fuel n ≠ 0 := by
  induction fuel generalizing n with
  | zero => exact h
  | succ fuel ih =>
    unfold freeNumber
    split
    · exact ih (numberAfter_ne_zero h)
    · exact h

/-- Where the search ends at a held number, it has passed over held numbers only. -/
theorem freeNumber_held (held : List StripNo) (fuel : Nat) (n : StripNo)
    (h : freeNumber held fuel n ∈ held) : ∀ i, i ≤ fuel → numberOn i n ∈ held := by
  induction fuel generalizing n with
  | zero =>
    intro i hi
    obtain rfl : i = 0 := by omega
    exact h
  | succ fuel ih =>
    unfold freeNumber at h
    split at h
    · rename_i hn
      intro i hi
      cases i with
      | zero => exact List.contains_iff_mem.1 hn
      | succ i => exact ih _ h i (by omega)
    · rename_i hn
      exact absurd (List.contains_iff_mem.2 h) hn

/-- Different numbers that all stand in a list are no more than the list is long. -/
theorem length_le_of_nodup {l m : List StripNo} (hl : l.Nodup) (hsub : ∀ n ∈ l, n ∈ m) :
    l.length ≤ m.length := by
  induction l generalizing m with
  | nil => exact Nat.zero_le _
  | cons n l ih =>
    obtain ⟨hn, hl⟩ := List.nodup_cons.1 hl
    have hmem : n ∈ m := hsub n List.mem_cons_self
    have hrest : l.length ≤ (m.erase n).length := ih hl fun k hk =>
      (List.mem_erase_of_ne (fun he : k = n => hn (he ▸ hk))).2 (hsub k (List.mem_cons_of_mem n hk))
    have herase := List.length_erase_of_mem hmem
    have hpos := List.length_pos_of_mem hmem
    rw [List.length_cons]
    omega

/-- The 66 numbers that a search of 65 can end at are all different. -/
theorem numberOn_nodup {n : StripNo} (hn : n ≠ 0) :
    ((List.range 66).map (fun i => numberOn i n)).Nodup := by
  refine List.pairwise_map.2 (List.nodup_range.imp_of_mem fun {i j} hi hj hij he => hij ?_)
  have hnat := congrArg BitVec.toNat he
  rw [numberOn_toNat hn, numberOn_toNat hn] at hnat
  rw [List.mem_range] at hi hj
  omega

/-- With at most 64 numbers held, the search of 65 finds one that is free. -/
theorem freeNumber_not_mem {held : List StripNo} {n : StripNo} (hheld : held.length ≤ 64)
    (hn : n ≠ 0) : freeNumber held 65 n ∉ held := by
  intro hmem
  have hsub : ∀ m ∈ (List.range 66).map (fun i => numberOn i n), m ∈ held := by
    intro m hm
    obtain ⟨i, hi, rfl⟩ := List.mem_map.1 hm
    rw [List.mem_range] at hi
    exact freeNumber_held held 65 n hmem i (by omega)
  have hlength := length_le_of_nodup (numberOn_nodup hn) hsub
  rw [List.length_map, List.length_range] at hlength
  omega

/-! ### Records enter (R4, R15) -/

theorem insertAhead_perm (r : Strip) (ahead : Option Nat) (l : List Strip) :
    (insertAhead r ahead l).Perm (r :: l) := by
  induction l with
  | nil => exact .refl _
  | cons q rest ih =>
    unfold insertAhead
    split
    · exact .refl _
    · exact (ih.cons q).trans (.swap r q rest)

/-- The number the next record is given (R5). -/
def State.freeNumber (s : State) : StripNo :=
  Machine.freeNumber (s.track.strips.map (·.number)) 65 s.track.nextNumber

/-- The track with an admitted record at its tail (R4). -/
def admitted (c : PendingChange) (s : State) : State :=
  { s with
    track :=
      { s.track with
        strips := s.track.strips ++ [newStrip s.track.nextSerial s.freeNumber c.start]
        inAdmission := some s.track.nextSerial
        nextNumber := numberAfter s.freeNumber
        nextSerial := s.track.nextSerial + 1
        stats := { s.track.stats with admitted := s.track.stats.admitted + 1 } } }

theorem admitStrip_room {c : PendingChange} {s : State} (hgate : c.gateOpen = true)
    (hroom : s.track.strips.length < 64) : admitStrip c s = afterCount (admitted c s) := by
  simp [admitStrip, hgate, hroom, admitted, State.freeNumber]

theorem admitStrip_none {c : PendingChange} {s : State}
    (h : c.gateOpen = false ∨ 64 ≤ s.track.strips.length) : admitStrip c s = s := by
  rw [admitStrip, if_neg]
  rw [Bool.and_eq_true, decide_eq_true_eq]
  rintro ⟨hgate, hroom⟩
  rcases h with hclosed | hfull
  · exact absurd (hgate.symm.trans hclosed) (by decide)
  · exact absurd hroom (Nat.not_lt.2 hfull)

theorem admitted_sound {c : PendingChange} {s : State} (hs : s.ledger.Sound)
    (hroom : s.track.strips.length < 64) : (admitted c s).ledger.Sound := by
  have hfree : s.freeNumber ∉ s.track.strips.map (·.number) :=
    freeNumber_not_mem (by rw [List.length_map]; omega) hs.next_ne_zero
  have hne : s.freeNumber ≠ 0 := freeNumber_ne_zero _ _ hs.next_ne_zero
  refine hs.enter (n := s.freeNumber) ?_ (.inr fun hmem => hfree ?_)
    (by simpa [State.ledger] using hroom) rfl (numberAfter_ne_zero hne) ?_ rfl
  · simp [State.ledger, admitted, Strip.entry, newStrip, List.perm_append_singleton]
  · rw [State.ledger_numbers] at hmem
    exact (List.mem_filter.1 hmem).1
  · simp only [State.ledger, admitted, Statistics.come]
    ac_rfl

theorem admitStrip_keeps (c : PendingChange) (s : State) : s.Keeps (admitStrip c s) := by
  by_cases h : c.gateOpen = true ∧ s.track.strips.length < 64
  · rw [admitStrip_room h.1 h.2]
    exact State.Keeps.trans (t := admitted c s) ⟨rfl, fun hs => admitted_sound hs h.2⟩
      (.of_outline (afterCount_outline _))
  · have hnone : c.gateOpen = false ∨ 64 ≤ s.track.strips.length := by
      cases hgate : c.gateOpen with
      | false => exact .inl rfl
      | true => exact .inr (Nat.not_lt.1 fun hroom => h ⟨hgate, hroom⟩)
    rw [admitStrip_none hnone]
    exact .refl s

/-- The track with a phantom put ahead of a record, or at the tail (R15). -/
def phantomMade (e : Travel) (ahead : Option Nat) (s : State) : State :=
  let ref := matchedReference s e
  { s with
    track :=
      { s.track with
        strips :=
          insertAhead (phantomStrip s.track.nextSerial ref (travelDiff s.track.travel ref)) ahead
            s.track.strips
        nextSerial := s.track.nextSerial + 1
        ckEdge := .judged e (some s.track.nextSerial)
        stats := { s.track.stats with phantom := s.track.stats.phantom + 1 } } }

theorem makePhantom_room {s : State} (e : Travel) (ahead : Option Nat)
    (hroom : s.track.strips.length < 64) :
    makePhantom e ahead s =
      afterCount
        (give (.phantom (travelDiff s.track.travel (matchedReference s e)))
          (phantomMade e ahead s)) := by
  simp [makePhantom, hroom, phantomMade]

theorem makePhantom_full {s : State} (e : Travel) (ahead : Option Nat)
    (hfull : 64 ≤ s.track.strips.length) :
    makePhantom e ahead s =
      give .phantomUntracked { s with track := { s.track with ckEdge := .judged e none } } := by
  rw [makePhantom, if_neg (Nat.not_lt.2 hfull)]

theorem phantomMade_sound {s : State} (e : Travel) (ahead : Option Nat) (hs : s.ledger.Sound)
    (hroom : s.track.strips.length < 64) : (phantomMade e ahead s).ledger.Sound := by
  refine hs.enter (n := 0) ?_ (.inl rfl) (by simpa [State.ledger] using hroom) rfl
    hs.next_ne_zero ?_ rfl
  · exact (insertAhead_perm _ _ _).map Strip.entry
  · simp only [State.ledger, phantomMade, Statistics.come]
    ac_rfl

theorem makePhantom_keeps (e : Travel) (ahead : Option Nat) (s : State) :
    s.Keeps (makePhantom e ahead s) := by
  by_cases hroom : s.track.strips.length < 64
  · rw [makePhantom_room e ahead hroom]
    exact State.Keeps.trans (t := phantomMade e ahead s)
      ⟨rfl, fun hs => phantomMade_sound e ahead hs hroom⟩
      (.of_outline ((afterCount_outline _).trans (give_outline _ _)))
  · rw [makePhantom_full e ahead (Nat.not_lt.1 hroom)]
    exact .of_outline (give_outline _ _)

/-! ### Admission and the check eye (R4 to R7, R13 to R17) -/

theorem testJoined_entry (s : State) (r : Strip) : (testJoined s r).entry = r.entry := by
  unfold testJoined
  repeat' split
  all_goals rfl

theorem markJoined_outline (s : State) : (markJoined s).outline = s.outline := by
  unfold markJoined
  split
  · rfl
  · exact modifySerial_outline _ _ s (testJoined_entry s)

theorem endAdmission_keeps (start : Travel) (s : State) : s.Keeps (endAdmission start s) := by
  unfold endAdmission
  split
  · exact .refl s
  · split
    · exact .of_outline rfl
    · rename_i r hr
      dsimp only
      refine State.Keeps.after (u := { s with track := { s.track with inAdmission := none } }) ?_ rfl
      split
      · exact removeChip_keeps (stripSerial_mem hr).1
      · split
        · exact .of_outline
            ((offerWaiting_outline _ _).trans (modifySerial_outline _ _ _ fun _ => rfl))
        · exact .of_outline (modifySerial_outline _ _ _ fun _ => rfl)

theorem expireCandidates_keeps (fuel : Nat) (s : State) : s.Keeps (expireCandidates fuel s) := by
  induction fuel generalizing s with
  | zero => exact .refl s
  | succ fuel ih =>
    unfold expireCandidates
    split
    · exact .refl s
    · split
      · exact .refl s
      · rename_i r hr
        split
        · exact (loseRecord_keeps (candidate_mem hr)).trans (ih _)
        · exact .refl s

theorem expiryTest_keeps (s : State) : s.Keeps (expiryTest s) := expireCandidates_keeps _ s

theorem matchCandidate_outline (r : Strip) (e : Travel) (s : State) :
    (matchCandidate r e s).outline = s.outline :=
  modifySerial_outline _ _ s fun _ => rfl

theorem judgeEdge_keeps (e : Travel) (s : State) : s.Keeps (judgeEdge e s) := by
  unfold judgeEdge
  split
  · exact (makePhantom_keeps e none s).trans (expiryTest_keeps _)
  · dsimp only
    split
    · exact (expiryTest_keeps _).after (matchCandidate_outline _ _ _)
    · exact (makePhantom_keeps e _ s).trans (expiryTest_keeps _)

theorem setCheckLength_outline (start : Travel) (s : State) :
    (setCheckLength start s).outline = s.outline := by
  unfold setCheckLength
  split
  · exact modifySerial_outline _ _ s fun _ => rfl
  · rfl

theorem closeCkEdge_keeps (start : Travel) (s : State) : s.Keeps (closeCkEdge start s) := by
  unfold closeCkEdge
  split
  · exact .refl s
  · split
    · exact (judgeEdge_keeps _ s).trans (.of_outline (setCheckLength_outline _ _))
    · exact (expiryTest_keeps _).after rfl
  · exact .of_outline (setCheckLength_outline _ s)

theorem travelJudgement_keeps (s : State) : s.Keeps (travelJudgement s) := by
  unfold travelJudgement
  split
  · split
    · exact judgeEdge_keeps _ s
    · exact .refl s
  · exact .refl s

theorem filterEyeIn_keeps (s : State) : s.Keeps (filterEyeIn s) := by
  unfold filterEyeIn
  split
  · split
    · dsimp only
      refine State.Keeps.after
        (u := { s with track := { s.track with eyeIn := s.track.eyeIn.accept } }) ?_ rfl
      split
      · exact admitStrip_keeps _ _
      · exact endAdmission_keeps _ _
    · exact .refl s
  · exact .refl s

theorem filterEyeCk_keeps (s : State) : s.Keeps (filterEyeCk s) := by
  unfold filterEyeCk
  split
  · split
    · dsimp only
      refine State.Keeps.after
        (u := { s with track := { s.track with eyeCk := s.track.eyeCk.accept } }) ?_ rfl
      split
      · exact .of_outline rfl
      · exact closeCkEdge_keeps _ _
    · exact .refl s
  · exact .refl s

theorem eyeInput_keeps (eye : Eye) (blocked : Bool) (s : State) : s.Keeps (eyeInput eye blocked s) := by
  cases eye
  · exact .of_outline (markJoined_outline _)
  · exact (expiryTest_keeps _).after rfl

/-! ### Passing events (R12, R18, R19) -/

theorem passBay_keeps {r : Strip} {s : State} (hr : r ∈ s.track.strips) : s.Keeps (passBay r s) := by
  unfold passBay
  split
  · split
    · exact (dropRecord_keeps (s := moveOverGate _ _ s) _ hr).after rfl
    · exact .refl s
  · exact .refl s

theorem passEnd_keeps {r : Strip} {s : State} (hr : r ∈ s.track.strips) : s.Keeps (passEnd r s) := by
  unfold passEnd
  split
  · exact dropRecord_keeps _ hr
  · exact .refl s

theorem takeEvent_keeps {r : Strip} {s : State} (e : PassEvent) (hr : r ∈ s.track.strips) :
    s.Keeps (takeEvent r s e) := by
  cases e with
  | pscLead => exact .of_outline (announce_outline r s)
  | pmoSettleLead =>
    exact .of_outline ((State.outline_of_frame (moulderSlice_frame _ _)).trans
      (markAtSample_outline _ r s))
  | pdpLead => exact .of_outline (decisionPoint_outline r s)
  | pemLead => exact .of_outline (confirmationDeadline_outline r s)
  | pemSettleLead =>
    exact .of_outline ((State.outline_of_frame (endMatchSlice_frame _ _)).trans
      (markAtSample_outline _ r s))
  | psaLead => exact .of_outline (assign_outline r s)
  | pbLead => exact .of_outline (State.outline_of_frame (reachBay_frame r s))
  | pmoTrail => exact .refl s
  | pemTrail => exact .refl s
  | pbTrail => exact passBay_keeps hr
  | pendTrail => exact passEnd_keeps hr

theorem raiseEvent_keeps (id : Nat) (s : State) (e : PassEvent) : s.Keeps (raiseEvent id s e) := by
  unfold raiseEvent
  split
  · exact .refl s
  · rename_i r hr
    obtain ⟨hmem, hserial⟩ := stripSerial_mem hr
    split
    · refine (takeEvent_keeps e ?_).after (modifySerial_outline id _ s fun _ => rfl)
      exact List.mem_map.2 ⟨r, hmem, by simp [hserial]⟩
    · exact .refl s

theorem raiseRecord_keeps (s : State) (id : Nat) : s.Keeps (raiseRecord s id) :=
  State.Keeps.foldl _ (raiseEvent_keeps id) _ s

theorem passingEvents_keeps (s : State) : s.Keeps (passingEvents s) :=
  State.Keeps.foldl _ raiseRecord_keeps _ s

/-! ### Travel (R1) -/

theorem afterTravel_keeps (s : State) : s.Keeps (afterTravel s) :=
  (filterEyeIn_keeps s).trans <| (filterEyeCk_keeps _).trans <|
    (State.Keeps.of_outline (markJoined_outline _)).trans <| (travelJudgement_keeps _).trans <|
      (expiryTest_keeps _).trans (passingEvents_keeps _)

theorem takeCounts_ledger (s : State) : (takeCounts s).ledger = s.ledger := by
  unfold takeCounts
  split <;> rfl

theorem flipEncoder_ledger (input : EncoderInput) (s : State) :
    (flipEncoder input s).ledger = s.ledger := by
  cases input <;> rfl

theorem count_sound (forward : Bool) (s : State) (hs : s.ledger.Sound) :
    (count forward s).ledger.Sound := by
  have hcounts : (takeCounts (followEyes s)).ledger.Sound := by
    rw [takeCounts_ledger]
    exact hs
  unfold count
  dsimp only
  generalize (if forward = true then _ else _ : Int) = r
  split
  · exact (afterTravel_keeps _).sound hcounts
  · split
    · exact (afterTravel_keeps _).sound hcounts
    · exact hcounts

theorem encoderEdge_sound (input : EncoderInput) (s : State) (hs : s.ledger.Sound) :
    (encoderEdge input s).ledger.Sound :=
  count_sound _ _ (by rw [flipEncoder_ledger]; exact hs)

end Sys2Proof.Machine

namespace Sys2Proof.Machine

/-! ## The ledger under every other command

No label, printer, supervision, head, scanner, saw, bay or store operation gives or takes a record, so
each leaves the ledger as it was. -/

theorem modifySerial_ledger (id : Nat) (f : Strip → Strip) (s : State)
    (hf : ∀ r, (f r).entry = r.entry) : (modifySerial id f s).ledger = s.ledger :=
  State.ledger_of_outline (modifySerial_outline id f s hf)

theorem modifyNumber_ledger (n : StripNo) (f : Strip → Strip) (s : State)
    (hf : ∀ r, (f r).entry = r.entry) : (modifyNumber n f s).ledger = s.ledger :=
  State.ledger_of_outline (modifyNumber_outline n f s hf)

theorem changeLine_ledger (st : LineState) (s : State) : (changeLine st s).ledger = s.ledger :=
  State.ledger_of_frame (changeLine_frame st s)

theorem addHold_ledger (h : HoldSource) (s : State) : (addHold h s).ledger = s.ledger :=
  State.ledger_of_frame (addHold_frame h s)

theorem removeHold_ledger (h : HoldSource) (s : State) : (removeHold h s).ledger = s.ledger :=
  State.ledger_of_frame (removeHold_frame h s)

theorem composerBegin_ledger (s : State) : (composerBegin s).ledger = s.ledger :=
  State.ledger_of_frame (composerBegin_frame s)

theorem converterNext_ledger (s : State) : (converterNext s).ledger = s.ledger :=
  State.ledger_of_frame (converterNext_frame s)

theorem moveCursor_ledger (i : Nat) (s : State) : (moveCursor i s).ledger = s.ledger :=
  State.ledger_of_frame (moveCursor_frame i s)

theorem engineBegin_ledger (s : State) : (engineBegin s).ledger = s.ledger :=
  State.ledger_of_outline (engineBegin_outline s)

theorem placeLine_ledger (st : LineState) (s : State) : (placeLine st s).ledger = s.ledger :=
  State.ledger_of_frame (placeLine_frame st s)

theorem reportLine_ledger (s : State) : (reportLine s).ledger = s.ledger :=
  State.ledger_of_frame (reportLine_frame s)

theorem completeStop_ledger (s : State) : (completeStop s).ledger = s.ledger :=
  State.ledger_of_frame (completeStop_frame s)

theorem judgeChute_ledger (s : State) : (judgeChute s).ledger = s.ledger :=
  State.ledger_of_frame (judgeChute_frame s)

theorem closeTest_ledger (b : Bay) (s : State) : (closeTest b s).ledger = s.ledger :=
  State.ledger_of_frame (closeTest_frame b s)

theorem endCheck_ledger (s : State) : (endCheck s).ledger = s.ledger :=
  State.ledger_of_frame (endCheck_frame s)

/-! ### Labels and the printer -/

theorem sendingTest_ledger (s : State) : (sendingTest s).ledger = s.ledger := by
  unfold sendingTest
  split
  · split <;> rfl
  · rfl

theorem composeFault_ledger (f : TemplateFault) (c : Composition) (s : State) :
    (composeFault f c s).ledger = s.ledger := composerBegin_ledger _

theorem reportOverflow_ledger (c : Composition) (s : State) :
    (reportOverflow c s).ledger = s.ledger := by
  unfold reportOverflow
  split <;> rfl

theorem completeComposition_ledger (c : Composition) (s : State) :
    (completeComposition c s).ledger = s.ledger :=
  (composerBegin_ledger _).trans <| (sendingTest_ledger _).trans (reportOverflow_ledger c _)

theorem finishStep_ledger (c : Composition) (size : Nat) (r : StepResult) (s : State) :
    (finishStep c size r s).ledger = s.ledger := by
  cases r with
  | go c' => rfl
  | fault f => exact composeFault_ledger f c s

theorem runStep_ledger (k : StepKind) (f : Composition → List Byte → StepResult) (s : State) :
    (runStep k f s).ledger = s.ledger := by
  unfold runStep
  split
  · rfl
  · split
    · split
      · exact finishStep_ledger _ _ _ s
      · rfl
    · rfl

theorem runEnd_ledger (s : State) : (runEnd s).ledger = s.ledger := by
  unfold runEnd
  split
  · rfl
  · split
    · exact completeComposition_ledger _ s
    · rfl

theorem runOverrun_ledger (s : State) : (runOverrun s).ledger = s.ledger := by
  unfold runOverrun
  split
  · rfl
  · split
    · exact composeFault_ledger _ _ s
    · rfl

theorem runBadStep_ledger (s : State) : (runBadStep s).ledger = s.ledger := by
  unfold runBadStep
  split
  · rfl
  · split
    · exact composeFault_ledger _ _ s
    · rfl

theorem completeDispatch_ledger (b : Bay) (s : State) : (completeDispatch b s).ledger = s.ledger := by
  unfold completeDispatch
  split <;> rfl

theorem releaseRecord_ledger (b : Bay) (s : State) : (releaseRecord b s).ledger = s.ledger := by
  unfold releaseRecord
  split <;> rfl

theorem endLabel_ledger (s : State) : (endLabel s).ledger = s.ledger := by
  refine (composerBegin_ledger _).trans ((sendingTest_ledger _).trans ?_)
  split <;> rfl

theorem takeReady_ledger (s : State) : (takeReady s).ledger = s.ledger := sendingTest_ledger _

theorem takePrinted_ledger (bundle : BitVec 32) (s : State) :
    (takePrinted bundle s).ledger = s.ledger := by
  unfold takePrinted
  dsimp only
  split <;> rfl

theorem takeApplied_ledger (bundle : BitVec 32) (s : State) :
    (takeApplied bundle s).ledger = s.ledger := by
  unfold takeApplied
  dsimp only
  split
  · exact (endLabel_ledger _).trans (completeDispatch_ledger _ _)
  · split
    · split <;> rfl
    · rfl

theorem takePrinterFault_ledger (bundle : BitVec 32) (code : Byte) (s : State) :
    (takePrinterFault bundle code s).ledger = s.ledger := by
  unfold takePrinterFault
  dsimp only
  split
  · exact (endLabel_ledger _).trans (State.ledger_congr (by simp [failLabel, clearPrinterRx]))
  · rfl

theorem expireApply_ledger (s : State) : (expireApply s).ledger = s.ledger := by
  unfold expireApply
  split
  · split
    · exact (endLabel_ledger _).trans (State.ledger_congr (by simp [failLabel]))
    · rfl
  · rfl

/-! ### Supervision -/

theorem makeCheck_ledger (s : State) : (makeCheck s).ledger = s.ledger := by
  unfold makeCheck
  dsimp only
  split
  · split
    · exact changeLine_ledger _ _
    · rfl
  · split
    · exact changeLine_ledger _ _
    · rfl

theorem checkAfterWrite_ledger (s : State) : (checkAfterWrite s).ledger = s.ledger := by
  unfold checkAfterWrite
  split
  · exact makeCheck_ledger s
  · rfl

theorem enterStopping_ledger (s : State) : (enterStopping s).ledger = s.ledger := by
  unfold enterStopping
  dsimp only
  split
  · exact (completeStop_ledger _).trans (placeLine_ledger _ s)
  · exact (reportLine_ledger _).trans (placeLine_ledger _ s)

theorem startLong_ledger (s : State) : (startLong s).ledger = s.ledger := by
  unfold startLong
  split <;> rfl

theorem startNormal_ledger (s : State) : (startNormal s).ledger = s.ledger := by
  unfold startNormal
  split <;> rfl

theorem keepAliveFault_ledger (notice : LineState → Notice) (s : State) :
    (keepAliveFault notice s).ledger = s.ledger := by
  refine (changeLine_ledger _ _).trans ?_
  split <;> rfl

theorem keepAliveEffect_ledger (s : State) : (keepAliveEffect s).ledger = s.ledger := by
  unfold keepAliveEffect
  split
  · rfl
  · exact startNormal_ledger s
  · exact keepAliveFault_ledger _ s

theorem expireWindow_ledger (s : State) : (expireWindow s).ledger = s.ledger := by
  unfold expireWindow
  split
  · split
    · exact keepAliveFault_ledger _ s
    · rfl
  · rfl

theorem changePeriod_ledger (old new : Period) (s : State) :
    (changePeriod old new s).ledger = s.ledger := by
  unfold changePeriod
  split
  · rfl
  · split
    · exact startLong_ledger s
    · rfl

theorem startGuard_ledger (s : State) : (startGuard s).ledger = s.ledger := by
  unfold startGuard
  split <;> rfl

theorem guardInput_ledger (high : Bool) (s : State) : (guardInput high s).ledger = s.ledger := by
  unfold guardInput
  split <;> rfl

theorem guardEdge_ledger (s : State) : (guardEdge s).ledger = s.ledger := by
  unfold guardEdge
  split
  · rfl
  · rfl
  · exact removeHold_ledger _ _

theorem acceptGuardEdge_ledger (s : State) : (acceptGuardEdge s).ledger = s.ledger := by
  unfold acceptGuardEdge
  split
  · split
    · exact guardEdge_ledger _
    · rfl
  · rfl

theorem expireGuard_ledger (s : State) : (expireGuard s).ledger = s.ledger := by
  unfold expireGuard
  split
  · split
    · exact addHold_ledger _ _
    · rfl
  · rfl

theorem changeGuard_ledger (old new : Bool) (s : State) : (changeGuard old new s).ledger = s.ledger := by
  unfold changeGuard
  split
  · exact startGuard_ledger s
  · split
    · exact removeHold_ledger _ _
    · rfl

theorem blinkLampA_ledger (s : State) : (blinkLampA s).ledger = s.ledger := by
  unfold blinkLampA
  split
  · split <;> rfl
  · rfl

theorem dimLampG_ledger (s : State) : (dimLampG s).ledger = s.ledger := by
  unfold dimLampG
  split
  · split <;> rfl
  · rfl

/-! ### Heads -/

theorem reportFault_ledger (n : Head) (k : HeadFault) (s : State) :
    (reportFault n k s).ledger = s.ledger := by
  unfold reportFault
  dsimp only
  split
  · rfl
  · split <;> split
    · exact addHold_ledger _ _
    · rfl
    · exact addHold_ledger _ _
    · rfl

theorem latchFault_ledger (n : Head) (k : HeadFault) (r : Strip) (s : State) :
    (latchFault n k r s).ledger = s.ledger :=
  (reportFault_ledger n k _).trans <|
    foldl_keeps State.ledger _
      (fun u q => State.ledger_of_outline (markSuspect_outline n false q u)) _ _

theorem badVerdict_ledger (n : Head) (k : HeadFault) (h : HeadSettings) (r : Strip) (s : State) :
    (badVerdict n k h r s).ledger = s.ledger := by
  unfold badVerdict
  dsimp only
  split
  · exact latchFault_ledger _ _ _ _
  · rfl

theorem judgeResult_ledger (n : Head) (cv : Conversion) (load : Nat) (r : Strip) (s : State) :
    (judgeResult n cv load r s).ledger = s.ledger := by
  unfold judgeResult
  dsimp only
  split
  · split
    · rfl
    · rfl
    · exact badVerdict_ledger _ _ _ _ s
  · rfl

theorem moveRotation_ledger (n : Head) (s : State) : (moveRotation n s).ledger = s.ledger := by
  unfold moveRotation
  split
  · split <;> rfl
  · rfl

theorem sliceResult_ledger (strip : StripNo) (n : Head) (cv : Conversion) (load : Nat) (s : State) :
    (sliceResult strip n cv load s).ledger = s.ledger := by
  unfold sliceResult
  split
  · rfl
  · split
    · rfl
    · exact (moveRotation_ledger _ _).trans (judgeResult_ledger _ _ _ _ _)

theorem judgePreWarning_ledger (reading : Nat) (s : State) :
    (judgePreWarning reading s).ledger = s.ledger := by
  unfold judgePreWarning
  dsimp only
  split
  · split <;> rfl
  · split <;> rfl

theorem judgeShutdown_ledger (reading : Nat) (s : State) :
    (judgeShutdown reading s).ledger = s.ledger := by
  unfold judgeShutdown
  dsimp only
  split
  · split
    · exact removeHold_ledger _ _
    · rfl
  · split
    · exact addHold_ledger _ _
    · rfl

theorem checkStep_ledger (n : Head) (cv : Conversion) (load : Nat) (s : State) :
    (checkStep n cv load s).ledger = s.ledger := by
  refine (moveCursor_ledger _ _).trans ?_
  split <;> rfl

theorem handResult_ledger (cv : Conversion) (result : Nat) (s : State) :
    (handResult cv result s).ledger = s.ledger := by
  unfold handResult
  split
  · exact sliceResult_ledger _ _ _ _ s
  · exact sliceResult_ledger _ _ _ _ s
  · exact checkStep_ledger _ _ _ s
  · exact (judgeShutdown_ledger _ _).trans (judgePreWarning_ledger _ _)

theorem completeConversion_ledger (result : ConversionResult) (s : State) :
    (completeConversion result s).ledger = s.ledger := by
  unfold completeConversion
  split
  · rfl
  · split
    · exact (converterNext_ledger _).trans (handResult_ledger _ _ _)
    · rfl

theorem temperatureTick_ledger (s : State) : (temperatureTick s).ledger = s.ledger := by
  unfold temperatureTick placeTemperature
  split
  · split
    · rfl
    · exact converterNext_ledger _
  · rfl

theorem temperatureStale_ledger (s : State) : (temperatureStale s).ledger = s.ledger := by
  unfold temperatureStale
  split <;> rfl

/-! ### Grading and the scanner -/

theorem completeEvaluation_ledger (k : Nat) (s : State) :
    (completeEvaluation k s).ledger = s.ledger := by
  unfold completeEvaluation
  split
  · split
    · exact (engineBegin_ledger _).trans
        (modifyNumber_ledger _ _ s fun r => by split <;> rfl)
    · rfl
  · rfl

theorem handOver_ledger (n : StripNo) (s : State) : (handOver n s).ledger = s.ledger := by
  unfold handOver
  split
  · rfl
  · split
    · rfl
    · split
      · exact modifyNumber_ledger _ _ s fun _ => rfl
      · exact modifyNumber_ledger _ _ s fun _ => rfl
      · split
        · exact State.ledger_of_outline (offer_outline n s)
        · rfl
      · rfl

theorem endIncomplete_ledger (n : StripNo) (s : State) : (endIncomplete n s).ledger = s.ledger :=
  (handOver_ledger n _).trans (modifyNumber_ledger _ _ s fun _ => rfl)

theorem cutOff_ledger (n : StripNo) (s : State) : (cutOff n s).ledger = s.ledger :=
  modifyNumber_ledger _ _ s fun r => by split <;> rfl

theorem endReport_ledger (s : State) : (endReport s).ledger = s.ledger := by
  unfold endReport
  split
  · split
    · exact cutOff_ledger _ s
    · exact endIncomplete_ledger _ s
  · rfl

theorem openScan_ledger (n : StripNo) (s : State) : (openScan n s).ledger = s.ledger :=
  modifyNumber_ledger _ _ s fun _ => rfl

theorem missAhead_ledger (ahead : List StripNo) (s : State) :
    (missAhead ahead s).ledger = s.ledger := by
  unfold missAhead
  split
  · rfl
  · exact foldl_keeps State.ledger _
      (fun u n => modifyNumber_ledger n _ u fun r => by split <;> rfl) _ s

theorem judgeStart_ledger (n : StripNo) (s : State) : (judgeStart n s).ledger = s.ledger := by
  unfold judgeStart
  dsimp only
  split
  · split
    · exact modifyNumber_ledger n _ { s with scanner := { s.scanner with announces := _ } }
        fun r => by split <;> rfl
    · exact (openScan_ledger _ _).trans (missAhead_ledger _ _)
  · rfl

theorem takeStart_ledger (n : StripNo) (s : State) : (takeStart n s).ledger = s.ledger := by
  refine (judgeStart_ledger n _).trans ?_
  split
  · rfl
  · exact endReport_ledger _

theorem storeDefect_ledger (n : StripNo) (d : Defect) (r : Strip) (s : State) :
    (storeDefect n d r s).ledger = s.ledger := by
  unfold storeDefect
  dsimp only
  split
  · exact modifyNumber_ledger _ _ s fun _ => rfl
  · split
    · exact modifyNumber_ledger _ _ s fun _ => rfl
    · rfl

theorem countDefect_ledger (n : StripNo) (d : Defect) (s : State) :
    (countDefect n d s).ledger = s.ledger := by
  unfold countDefect
  dsimp only
  split
  · split
    · exact storeDefect_ledger _ _ _ _
    · rfl
  · rfl

theorem takeDefect_ledger (d : Defect) (s : State) : (takeDefect d s).ledger = s.ledger := by
  unfold takeDefect
  dsimp only
  split
  · split
    · exact cutOff_ledger _ _
    · exact countDefect_ledger _ _ _
  · rfl
  · rfl

theorem endScan_ledger (n : StripNo) (count : Nat) (s : State) :
    (endScan n count s).ledger = s.ledger := by
  unfold endScan
  split
  · rfl
  · split
    · exact endIncomplete_ledger n s
    · exact (handOver_ledger n _).trans (modifyNumber_ledger _ _ s fun _ => rfl)

theorem takeEnd_ledger (strip : StripNo) (count : Byte) (s : State) :
    (takeEnd strip count s).ledger = s.ledger := by
  unfold takeEnd
  dsimp only
  split
  · split
    · exact cutOff_ledger _ _
    · split
      · exact endScan_ledger _ _ _
      · exact endIncomplete_ledger _ _
  · rfl
  · rfl

/-! ### The saw -/

theorem applyCut_entry (f : OrderForm) (r : Strip) : (applyCut f r).entry = r.entry := by
  cases f <;> rfl

theorem takeDone_ledger (n : StripNo) (s : State) : (takeDone n s).ledger = s.ledger := by
  unfold takeDone
  dsimp only
  split
  · rfl
  · split
    · exact modifySerial_ledger _ _ (removeOrder _ (clearSawRx s)) (applyCut_entry _)
    · rfl
    · rfl

theorem faultRecord_ledger (n : StripNo) (s : State) : (faultRecord n s).ledger = s.ledger := by
  unfold faultRecord
  dsimp only
  split
  · rfl
  · split
    · split <;> rfl
    · rfl
    · split
      · rfl
      · exact modifySerial_ledger _ _ (removeOrder n s) fun _ => rfl

theorem takeSawFault_ledger (n : StripNo) (code : Byte) (s : State) :
    (takeSawFault n code s).ledger = s.ledger := faultRecord_ledger n _

/-! ### The receivers and the transmit side -/

theorem lineError_ledger (line : FieldLine) (s : State) : (lineError line s).ledger = s.ledger := by
  cases line with
  | scanner =>
    unfold lineError damageScan
    dsimp only
    split <;> rfl
  | saw => rfl
  | printer => rfl

theorem abandonField_ledger (line : FieldLine) (s : State) :
    (abandonField line s).ledger = s.ledger := by
  unfold abandonField
  split
  · exact lineError_ledger line s
  · rfl

theorem setFieldRx_ledger (line : FieldLine) (r : Receiver) (s : State) :
    (setFieldRx line r s).ledger = s.ledger := by
  cases line <;> rfl

/-- Taking a whole message of a field line leaves the ledger. -/
theorem fieldMessage_ledger {line : FieldLine} {kind : Byte} {body : List Byte} {take : State → State}
    (h : fieldMessage line kind body = some take) (s : State) : (take s).ledger = s.ledger := by
  cases line with
  | scanner =>
    simp only [fieldMessage, scannerMessage] at h
    split at h <;> cases h
    · exact takeStart_ledger _ s
    · exact takeDefect_ledger _ s
    · exact takeEnd_ledger _ _ s
  | saw =>
    simp only [fieldMessage, sawMessage] at h
    split at h <;> cases h
    · exact takeDone_ledger _ s
    · exact takeSawFault_ledger _ _ s
  | printer =>
    simp only [fieldMessage, printerMessage] at h
    split at h <;> cases h
    · exact takeReady_ledger s
    · exact takePrinted_ledger _ s
    · exact takeApplied_ledger _ s
    · exact takePrinterFault_ledger _ _ s

theorem fieldCheck_ledger (line : FieldLine) (len : Nat) (kept : List Byte) (b : Byte) (s : State) :
    (fieldCheck line len kept b s).ledger = s.ledger := by
  unfold fieldCheck
  split
  · split
    · split
      · rename_i h
        exact fieldMessage_ledger h s
      · exact lineError_ledger line s
    · exact lineError_ledger line s
  · exact lineError_ledger line s

theorem judgeFieldByte_ledger (line : FieldLine) (b : Byte) (s : State) :
    (judgeFieldByte line b s).ledger = s.ledger := by
  unfold judgeFieldByte
  split
  · split
    · exact setFieldRx_ledger _ _ s
    · rfl
  · split
    · exact lineError_ledger line s
    · exact setFieldRx_ledger _ _ s
  · exact setFieldRx_ledger _ _ s
  · exact fieldCheck_ledger _ _ _ _ s

theorem fieldByte_ledger (line : FieldLine) (b : Byte) (s : State) :
    (fieldByte line b s).ledger = s.ledger :=
  (setFieldRx_ledger _ _ _).trans <|
    (judgeFieldByte_ledger _ _ _).trans (abandonField_ledger line s)

theorem sendNext_ledger (s : State) : (sendNext s).ledger = s.ledger := by
  simp only [State.ledger, sendNext_track]

theorem frameGone_ledger (s : State) : (frameGone s).ledger = s.ledger := by
  unfold frameGone replyGone
  split
  · rfl
  · split
    · rfl
    · dsimp only
      split
      · rfl
      · exact sendNext_ledger _
  · exact sendNext_ledger _

theorem completeSave_ledger (readBack : BitVec 16) (s : State) :
    (completeSave readBack s).ledger = s.ledger := by
  unfold completeSave
  split
  · rfl
  · split <;> rfl

/-! ### Requests (R181, R182) -/

/-- An owner of a request that leaves the ledger as it was. -/
def ServesLedger (serve : State → Served) : Prop := ∀ s, (serve s).1.ledger = s.ledger

theorem refuse_ledger (code : Refuse) (detail : Nat) : ServesLedger (refuse code detail) :=
  fun _ => rfl

theorem sized_ledger {n : Nat} {body : List Byte} {f : State → Served} (h : ServesLedger f) :
    ServesLedger (sized n body f) := by
  intro s
  unfold sized
  split
  · exact h s
  · rfl

theorem serveRun_ledger (body : List Byte) : ServesLedger (serveRun body) := by
  refine sized_ledger fun s => ?_
  split
  · rfl
  · split
    · rfl
    · exact (changeLine_ledger _ _).trans ((startGuard_ledger _).trans (startLong_ledger s))

theorem serveStop_ledger (body : List Byte) : ServesLedger (serveStop body) := by
  refine sized_ledger fun s => ?_
  show (stopEffect s).ledger = s.ledger
  unfold stopEffect
  split
  · exact enterStopping_ledger s
  · exact enterStopping_ledger s
  · rfl
  · rfl

theorem serveHold_ledger (body : List Byte) : ServesLedger (serveHold body) :=
  sized_ledger fun s => addHold_ledger _ s

theorem serveRelease_ledger (body : List Byte) : ServesLedger (serveRelease body) :=
  sized_ledger fun s => removeHold_ledger _ s

theorem leaveFailsafe_ledger (s : State) : (leaveFailsafe s).ledger = s.ledger := by
  unfold leaveFailsafe
  dsimp only
  split
  · exact (enterStopping_ledger _).trans (startLong_ledger s)
  · split
    · exact (changeLine_ledger _ _).trans (startLong_ledger s)
    · exact (changeLine_ledger _ _).trans (startLong_ledger s)

theorem serveResume_ledger (body : List Byte) : ServesLedger (serveResume body) := by
  refine sized_ledger fun s => ?_
  split
  · exact leaveFailsafe_ledger s
  · rfl

theorem serveKeepalive_ledger (body : List Byte) : ServesLedger (serveKeepalive body) :=
  sized_ledger fun s => keepAliveEffect_ledger s

theorem serveTrackRead_ledger (body : List Byte) : ServesLedger (serveTrackRead body) := by
  refine sized_ledger fun s => ?_
  dsimp only
  split <;> rfl

theorem headClear_ledger (s : State) : (headClear s).ledger = s.ledger := by
  unfold headClear
  dsimp only
  split
  · rfl
  · exact removeHold_ledger _ _

theorem serveHeadClear_ledger (body : List Byte) : ServesLedger (serveHeadClear body) :=
  sized_ledger fun s => headClear_ledger s

theorem beginCheck_ledger (s : State) : (beginCheck s).ledger = s.ledger := by
  unfold beginCheck
  dsimp only
  split
  · exact endCheck_ledger _
  · exact (converterNext_ledger _).trans ((moveCursor_ledger _ _).trans (addHold_ledger _ _))

theorem serveHeadCheck_ledger (body : List Byte) : ServesLedger (serveHeadCheck body) := by
  refine sized_ledger fun s => ?_
  repeat' split
  case isFalse.isFalse.isFalse.isFalse => exact beginCheck_ledger s
  all_goals rfl

theorem setRole_ledger (b : Bay) (role : Role) (s : State) : (setRole b role s).ledger = s.ledger := by
  unfold setRole
  split <;> rfl

theorem serveBaySet_ledger (body : List Byte) : ServesLedger (serveBaySet body) := by
  refine sized_ledger fun s => ?_
  dsimp only
  split
  · rfl
  · rfl
  · split
    · rfl
    · split
      · rfl
      · exact (checkAfterWrite_ledger _).trans (setRole_ledger _ _ s)

theorem serveBinEmptied_ledger (body : List Byte) : ServesLedger (serveBinEmptied body) := by
  refine sized_ledger fun s => ?_
  dsimp only
  split
  · exact removeHold_ledger _ _
  · split
    · rfl
    · split <;> rfl

theorem serveBundleRead_ledger (body : List Byte) : ServesLedger (serveBundleRead body) := by
  refine sized_ledger fun s => ?_
  dsimp only
  split
  · rfl
  · split
    · rfl
    · split <;> rfl

theorem serveBayClose_ledger (body : List Byte) : ServesLedger (serveBayClose body) := by
  refine sized_ledger fun s => ?_
  split
  · rfl
  · split
    · rfl
    · split
      · rfl
      · split
        · rfl
        · exact closeTest_ledger _ _

theorem serveNextNumber_ledger (body : List Byte) : ServesLedger (serveNextNumber body) := by
  refine sized_ledger fun s => ?_
  dsimp only
  split <;> rfl

theorem serveTemplateWrite_ledger (body : List Byte) : ServesLedger (serveTemplateWrite body) := by
  intro s
  unfold serveTemplateWrite
  split
  · rfl
  · split
    · dsimp only
      split
      · rfl
      · split
        · rfl
        · exact checkAfterWrite_ledger _
    · rfl

theorem goOffline_ledger (s : State) : (goOffline s).ledger = s.ledger := by
  unfold goOffline
  dsimp only
  split
  · split <;> rfl
  · rfl

theorem servePrinterOffline_ledger (body : List Byte) : ServesLedger (servePrinterOffline body) :=
  sized_ledger fun s => goOffline_ledger s

theorem servePrinterOnline_ledger (body : List Byte) : ServesLedger (servePrinterOnline body) :=
  sized_ledger fun _ => sendingTest_ledger _

theorem serveReprint_ledger (body : List Byte) : ServesLedger (serveReprint body) := by
  refine sized_ledger fun s => ?_
  dsimp only
  split
  · rfl
  · exact composerBegin_ledger _

theorem serveReleaseUnlabelled_ledger (body : List Byte) :
    ServesLedger (serveReleaseUnlabelled body) := by
  refine sized_ledger fun s => ?_
  split
  · rfl
  · exact releaseRecord_ledger _ s

theorem serveNoticeMask_ledger (body : List Byte) : ServesLedger (serveNoticeMask body) := by
  refine sized_ledger fun s => ?_
  dsimp only
  split <;> rfl

theorem serveConfigRead_ledger (body : List Byte) : ServesLedger (serveConfigRead body) := by
  refine sized_ledger fun s => ?_
  split <;> rfl

theorem putSection_ledger (sec : Section) (new : WorkingConfig) (s : State) :
    (putSection sec new s).ledger = s.ledger := by
  unfold putSection
  split
  · exact foldl_keeps State.ledger _ (fun u b => setRole_ledger b _ u) _ s
  · exact judgeChute_ledger _
  · exact (changeGuard_ledger _ _ _).trans (changePeriod_ledger _ _ _)
  · rfl

theorem writeSection_ledger (sec : Section) (bytes : List Byte) :
    ServesLedger (writeSection sec bytes) := by
  intro s
  unfold writeSection
  dsimp only
  split
  · rfl
  · split
    · rfl
    · split
      · rfl
      · split
        · rfl
        · split
          · rfl
          · exact (checkAfterWrite_ledger _).trans (putSection_ledger _ _ s)

theorem serveConfigWrite_ledger (body : List Byte) : ServesLedger (serveConfigWrite body) := by
  intro s
  unfold serveConfigWrite
  split
  · rfl
  · split
    · rfl
    · exact writeSection_ledger _ _ s

theorem serveSave_ledger (body : List Byte) : ServesLedger (serveSave body) := by
  refine sized_ledger fun s => ?_
  split <;> rfl

theorem serveRestart_ledger (body : List Byte) : ServesLedger (serveRestart body) := by
  refine sized_ledger fun s => ?_
  repeat' split
  all_goals rfl

/-- No request gives or takes a record. -/
theorem serveKind_ledger (kind : Byte) (body : List Byte) : ServesLedger (serveKind kind body) := by
  have hread {n : Nat} (f : State → List Byte) :
      ServesLedger (sized n body fun s => accept (f s) s) := sized_ledger fun _ => rfl
  unfold serveKind
  split
  · exact hread _
  · exact serveRun_ledger body
  · exact serveStop_ledger body
  · exact serveHold_ledger body
  · exact serveRelease_ledger body
  · exact serveResume_ledger body
  · exact serveKeepalive_ledger body
  · exact sized_ledger fun _ => rfl
  · exact serveTrackRead_ledger body
  · exact hread _
  · exact hread _
  · exact hread _
  · exact sized_ledger fun _ => rfl
  · exact serveHeadClear_ledger body
  · exact serveHeadCheck_ledger body
  · exact hread _
  · exact serveBaySet_ledger body
  · exact serveBinEmptied_ledger body
  · exact serveBundleRead_ledger body
  · exact serveBayClose_ledger body
  · exact sized_ledger fun _ => rfl
  · exact serveNextNumber_ledger body
  · exact serveTemplateWrite_ledger body
  · exact hread _
  · exact servePrinterOffline_ledger body
  · exact servePrinterOnline_ledger body
  · exact serveReprint_ledger body
  · exact serveReleaseUnlabelled_ledger body
  · exact hread _
  · exact serveNoticeMask_ledger body
  · exact hread _
  · exact serveConfigRead_ledger body
  · exact serveConfigWrite_ledger body
  · exact serveSave_ledger body
  · exact serveRestart_ledger body
  · exact refuse_ledger _ _

theorem takeFrame_ledger {serve : State → Served} (h : ServesLedger serve) (kind tag : Byte)
    (s : State) : (takeFrame kind tag serve s).ledger = s.ledger := by
  unfold takeFrame
  split
  · unfold turnAway
    split <;> rfl
  · exact h s

theorem hostCheck_ledger (len : Nat) (kept : List Byte) (b : Byte) (s : State) :
    (hostCheck len kept b s).ledger = s.ledger := by
  unfold hostCheck
  split
  · split
    · exact takeFrame_ledger (serveKind_ledger _ _) _ _ s
    · rfl
  · rfl

theorem abandonHost_ledger (s : State) : (abandonHost s).ledger = s.ledger := by
  unfold abandonHost
  split <;> rfl

theorem judgeHostByte_ledger (b : Byte) (s : State) : (judgeHostByte b s).ledger = s.ledger := by
  unfold judgeHostByte hostCollect
  split
  · split <;> rfl
  · split <;> rfl
  · split <;> rfl
  · exact hostCheck_ledger _ _ b s

theorem hostByte_ledger (b : Byte) (s : State) : (hostByte b s).ledger = s.ledger :=
  (judgeHostByte_ledger b _).trans (abandonHost_ledger s)

end Sys2Proof.Machine

namespace Sys2Proof.Machine

/-! ## Every step keeps the track's account (R5, R10, R20) -/

/-! ### Resets (R22, R193, R194) -/

/-- The ledger right after either reset: no record, numbers from 1 (R22). -/
def Ledger.reset : Ledger :=
  { entries := [], nextNumber := 1, nextSerial := 0, come := 0, gone := 0 }

theorem Ledger.reset_sound : Ledger.reset.Sound :=
  ⟨.nil, fun _ h => absurd h List.not_mem_nil, rfl, Nat.zero_le _, .nil, by decide⟩

theorem finishStart_ledger (s : State) : (finishStart s).ledger = s.ledger := by
  refine (State.ledger_of_frame (placeRequests_frame _ _)).trans ?_
  have hload : (reportLoad s).ledger = s.ledger := by
    unfold reportLoad
    split <;> rfl
  unfold startCheck
  dsimp only
  split
  · exact (changeLine_ledger _ _).trans hload
  · exact (reportLine_ledger _).trans hload

theorem hardwareReset_ledger (cause : ResetCause) (baud : Baud) (fsel : FailSafeMode) (s : State) :
    (hardwareReset cause baud fsel s).ledger = Ledger.reset := finishStart_ledger _

theorem restartNow_ledger (s : State) : (restartNow s).ledger = Ledger.reset :=
  (finishStart_ledger _).trans (judgeChute_ledger _)

theorem restartWhenDue_sound (s : State) (hs : s.ledger.Sound) : (restartWhenDue s).ledger.Sound := by
  unfold restartWhenDue
  split
  · rw [restartNow_ledger]
    exact Ledger.reset_sound
  · exact hs

/-! ### Commands -/

theorem settle_ledger (s : State) : (settle s).ledger = s.ledger :=
  State.ledger_congr (settle_track s)

theorem live_sound {f : State → State} {s t : State} (hs : s.ledger.Sound)
    (hf : s.ledger.Sound → (f s).ledger.Sound) (h : live s f = .next t) : t.ledger.Sound := by
  unfold live at h
  split at h <;> cases h
  · rw [settle_ledger]
    exact hf hs
  · exact hs

/-- A command whose effect leaves the ledger as it was. -/
theorem live_ledger {f : State → State} {s t : State} (hs : s.ledger.Sound)
    (hf : (f s).ledger = s.ledger) (h : live s f = .next t) : t.ledger.Sound :=
  live_sound hs (fun _ => hf ▸ hs) h

/-- Every row of a request is its frame handed to the owner of its kind (R182). -/
theorem exec_of_body {c : Instr} {body : List Byte} (h : c.body = some body) (s : State) :
    ∃ kind tag, exec c s = live s (takeFrame kind tag (serveKind kind body)) := by
  cases c <;> cases h <;> exact ⟨_, _, rfl⟩

/-- A command that is no request keeps the account. -/
theorem exec_sound_of_no_body {c : Instr} {s t : State} (hbody : c.body = none) (hs : s.ledger.Sound)
    (h : exec c s = .next t) : t.ledger.Sound := by
  cases c with
  | encoderCount input =>
    change (if s.powered then live s (encoderEdge input) else .next (flipEncoder input s)) = _ at h
    split at h
    · exact live_sound hs (encoderEdge_sound input s) h
    · cases h
      rw [flipEncoder_ledger]
      exact hs
  | eyeInputChange eye blocked =>
    change (if s.powered then live s (eyeInput eye blocked) else .next (seeEye eye blocked s)) = _ at h
    split at h
    · exact live_sound hs (eyeInput_keeps eye blocked s).sound h
    · cases h
      cases eye <;> exact hs
  | speedIntervalEnd =>
    exact live_ledger hs (by unfold endInterval; split <;> rfl) h
  | keepaliveWindowExpiry => exact live_ledger hs (expireWindow_ledger s) h
  | guardInputChange high =>
    change (if s.powered then live s (guardInput high) else _) = _ at h
    split at h
    · exact live_ledger hs (guardInput_ledger high s) h
    · cases h
      exact hs
  | guardEdgeAccepted => exact live_ledger hs (acceptGuardEdge_ledger s) h
  | guardWindowExpiry => exact live_ledger hs (expireGuard_ledger s) h
  | lampABlink => exact live_ledger hs (blinkLampA_ledger s) h
  | lampGDim => exact live_ledger hs (dimLampG_ledger s) h
  | scannerStart strip => exact live_ledger hs (takeStart_ledger strip s) h
  | defect kind position extent severity => exact live_ledger hs (takeDefect_ledger _ s) h
  | scannerEnd strip count => exact live_ledger hs (takeEnd_ledger strip count s) h
  | fieldFrameDiscarded line => exact live_ledger hs (lineError_ledger line s) h
  | fieldGapTimeout line => exact live_ledger hs (abandonField_ledger line s) h
  | evaluationCompletion evaluation => exact live_ledger hs (completeEvaluation_ledger evaluation s) h
  | sawDone strip => exact live_ledger hs (takeDone_ledger strip s) h
  | sawFault strip code => exact live_ledger hs (takeSawFault_ledger strip code s) h
  | conversionCompletion result => exact live_ledger hs (completeConversion_ledger result s) h
  | temperatureTimer => exact live_ledger hs (temperatureTick_ledger s) h
  | temperatureStale => exact live_ledger hs (temperatureStale_ledger s) h
  | stepText => exact live_ledger hs (runStep_ledger _ _ s) h
  | stepLoad => exact live_ledger hs (runStep_ledger _ _ s) h
  | stepDigits => exact live_ledger hs (runStep_ledger _ _ s) h
  | stepForce => exact live_ledger hs (runStep_ledger _ _ s) h
  | stepMark => exact live_ledger hs (runStep_ledger _ _ s) h
  | stepPut => exact live_ledger hs (runStep_ledger _ _ s) h
  | stepFill => exact live_ledger hs (runStep_ledger _ _ s) h
  | stepSetchar => exact live_ledger hs (runStep_ledger _ _ s) h
  | stepCopy => exact live_ledger hs (runStep_ledger _ _ s) h
  | stepBlankzero => exact live_ledger hs (runStep_ledger _ _ s) h
  | stepLine => exact live_ledger hs (runStep_ledger _ _ s) h
  | stepEnd => exact live_ledger hs (runEnd_ledger s) h
  | overrun => exact live_ledger hs (runOverrun_ledger s) h
  | badstep => exact live_ledger hs (runBadStep_ledger s) h
  | printerReady => exact live_ledger hs (takeReady_ledger s) h
  | printed bundle => exact live_ledger hs (takePrinted_ledger bundle s) h
  | applied bundle => exact live_ledger hs (takeApplied_ledger bundle s) h
  | printerFault bundle code => exact live_ledger hs (takePrinterFault_ledger bundle code s) h
  | applyTimeout => exact live_ledger hs (expireApply_ledger s) h
  | saveCompletion readBack => exact live_ledger hs (completeSave_ledger readBack s) h
  | restartExecute => exact live_sound hs (restartWhenDue_sound s) h
  | hardwareReset source baud fsel =>
    change (if _ then Host.Outcome.next (settle (hardwareReset _ baud fsel s)) else _) = _ at h
    split at h <;> cases h
    · rw [settle_ledger, hardwareReset_ledger]
      exact Ledger.reset_sound
    · exact hs
  | hostFrameDiscarded => exact live_ledger hs rfl h
  | hostGapTimeout => exact live_ledger hs (abandonHost_ledger s) h
  | transmitComplete => exact live_ledger hs (frameGone_ledger s) h
  | hostByteArrival byte => exact live_ledger hs (hostByte_ledger byte s) h
  | fieldByteArrival line byte => exact live_ledger hs (fieldByte_ledger line byte s) h
  | lossOfPower =>
    cases h
    exact hs
  | _ => cases hbody

theorem exec_sound {c : Instr} {s t : State} (hs : s.ledger.Sound) (h : exec c s = .next t) :
    t.ledger.Sound := by
  cases hbody : c.body with
  | none => exact exec_sound_of_no_body hbody hs h
  | some body =>
    obtain ⟨kind, tag, hexec⟩ := exec_of_body hbody s
    exact live_ledger hs (takeFrame_ledger (serveKind_ledger kind body) kind tag s) (hexec ▸ h)

/-- A step is a command of the queue or of the clock, or a quarter-millisecond's passing. -/
theorem step_sound {s t : State} (hs : s.ledger.Sound) (h : step s = .next t) : t.ledger.Sound := by
  unfold step at h
  split at h
  · rename_i rest _
    exact exec_sound (s := { s with pending := rest }) hs h
  · unfold idleStep at h
    split at h
    · exact exec_sound hs h
    · cases h
      exact hs

/-- Settles O56: the promises are those of the ledger, and every step keeps it sound. -/
theorem stepsKeepTheTrackAccount : Obligations.StepsKeepTheTrackAccount := by
  intro s t haccounts hnumbers hstep
  rw [← State.ledger_sound_iff]
  exact step_sound ((State.ledger_sound_iff s).2 ⟨haccounts, hnumbers⟩) hstep

end Sys2Proof.Machine

namespace Sys2Proof.Machine

/-! ## Counts and the feed speed (R1 to R3) -/

/-! ### The end of a command leaves the course -/

theorem sendReply_course (s : State) : (sendReply s).course = s.course := by
  unfold sendReply
  split <;> rfl

theorem sendNotice_course (s : State) : (sendNotice s).course = s.course := by
  unfold sendNotice
  split <;> rfl

theorem sendNext_course (s : State) : (sendNext s).course = s.course := by
  unfold sendNext
  split
  · rfl
  · split
    · exact sendNotice_course s
    · exact sendReply_course s

theorem arbitrate_course (s : State) : (arbitrate s).course = s.course := by
  unfold arbitrate
  dsimp only
  split
  · split
    · split
      · exact sendReply_course _
      · exact sendNotice_course _
    · exact sendNext_course s
  · rfl

theorem settle_course (s : State) : (settle s).course = s.course := by
  refine (arbitrate_course _).trans ?_
  rw [refreshLampA_eq]
  rfl

/-! ### One count (R1) -/

/-- The remainder a count starts from: a changed counts-per-mm setting discards it (R1). -/
def State.keptRemainder (s : State) : Int :=
  if s.track.countsInForce = s.cfg.line.countsPerMm then s.track.remainder else 0

/-- The remainder after a count, before a whole millimetre is taken from it (R1). -/
def State.countedRemainder (forward : Bool) (s : State) : Int :=
  if forward then s.keptRemainder + 1 else s.keptRemainder - 1

/-- A state whose eyes have been looked at, with the setting in force and a travel and a remainder. -/
def countedTo (travel : Travel) (rest : Int) (s : State) : State :=
  { s with
    track :=
      { s.track with
        travel := travel
        remainder := rest
        countsInForce := s.cfg.line.countsPerMm
        eyeIn := s.track.eyeIn.follow s.track.travel s.gateInOpen
        eyeCk := s.track.eyeCk.follow s.track.travel s.gateInOpen } }

theorem takeCounts_followEyes (s : State) :
    takeCounts (followEyes s) = countedTo s.track.travel s.keptRemainder s := by
  have hsame : (followEyes s).track.countsInForce = (followEyes s).cfg.line.countsPerMm ↔
      s.track.countsInForce = s.cfg.line.countsPerMm := Iff.rfl
  unfold takeCounts State.keptRemainder
  by_cases h : s.track.countsInForce = s.cfg.line.countsPerMm
  · rw [if_pos h, if_pos (hsame.2 h)]
    simp only [countedTo, ← h]
    rfl
  · rw [if_neg h, if_neg (mt hsame.1 h)]
    rfl

/-- What a count does, by the remainder it makes. -/
theorem count_eq (forward : Bool) (s : State) :
    count forward s =
      if (s.cfg.line.countsPerMm : Int) ≤ s.countedRemainder forward then
        afterTravel
          (countedTo (s.track.travel + 1) (s.countedRemainder forward - s.cfg.line.countsPerMm) s)
      else if s.countedRemainder forward ≤ -s.cfg.line.countsPerMm then
        afterTravel
          (countedTo (s.track.travel - 1) (s.countedRemainder forward + s.cfg.line.countsPerMm) s)
      else countedTo s.track.travel (s.countedRemainder forward) s := by
  unfold count
  rw [takeCounts_followEyes]
  rfl

/-- Travel and remainder after a count that has made the remainder `r`. -/
def movedTo (travel : Travel) (r cpm : Int) : Travel × Int :=
  if cpm ≤ r then (travel + 1, r - cpm)
  else if r ≤ -cpm then (travel - 1, r + cpm)
  else (travel, r)

theorem movedTo_forward {travel : Travel} {r cpm : Int} (h : cpm ≤ r) :
    movedTo travel r cpm = (travel + 1, r - cpm) := if_pos h

theorem movedTo_reverse {travel : Travel} {r cpm : Int} (h : r < cpm) (h' : r ≤ -cpm) :
    movedTo travel r cpm = (travel - 1, r + cpm) := by
  rw [movedTo, if_neg (Int.not_le.2 h), if_pos h']

theorem movedTo_short {travel : Travel} {r cpm : Int} (h : r < cpm) (h' : -cpm < r) :
    movedTo travel r cpm = (travel, r) := by
  rw [movedTo, if_neg (Int.not_le.2 h), if_neg (Int.not_le.2 h')]

theorem count_course (forward : Bool) (s : State) :
    (count forward s).course =
      (countedTo
        (movedTo s.track.travel (s.countedRemainder forward) s.cfg.line.countsPerMm).1
        (movedTo s.track.travel (s.countedRemainder forward) s.cfg.line.countsPerMm).2 s).course := by
  rw [count_eq]
  unfold movedTo
  split
  · exact (afterTravel_keeps _).course
  · split
    · exact (afterTravel_keeps _).course
    · rfl

theorem exec_encoderCount {s : State} (input : EncoderInput) (h : s.powered = true) :
    exec (.encoderCount input) s = .next (settle (encoderEdge input s)) := by
  change (if s.powered then live s (encoderEdge input) else _) = _
  rw [if_pos h, live_powered s _ h]

/-- States of one course agree in what a course holds. -/
theorem State.course_eq_iff (s t : State) :
    t.course = s.course ↔
      t.track.encA = s.track.encA ∧ t.track.encB = s.track.encB ∧
        t.track.travel = s.track.travel ∧ t.track.remainder = s.track.remainder ∧
        t.track.countsInForce = s.track.countsInForce ∧ t.track.speed = s.track.speed ∧
        t.track.intervalStart = s.track.intervalStart ∧ t.track.intervalEnd = s.track.intervalEnd ∧
        t.printer = s.printer ∧
        { t.store with lastCheck := 0 } = { s.store with lastCheck := 0 } ∧
        t.link.replies = s.link.replies ∧ t.link.masks = s.link.masks := by
  simp only [State.course, Course.mk.injEq]

/-- Configuration stores that differ in the last check's result only. -/
theorem store_with_lastCheck {st st' : ConfigStore}
    (h : { st with lastCheck := 0 } = { st' with lastCheck := 0 }) :
    { st with lastCheck := st'.lastCheck } = st' :=
  congrArg (fun u : ConfigStore => { u with lastCheck := st'.lastCheck }) h

/-! ### The feed speed (R2) -/

/-- A net reverse interval gives the speed 0 (R2). -/
theorem speedOf_eq (net : Int) :
    speedOf net = if net < 0 then 0 else min (net.toNat * 6 / 10) 600 := by
  unfold speedOf
  split
  · rename_i h
    rw [Int.toNat_of_nonpos (Int.le_of_lt h)]
    rfl
  · rfl

theorem countedTo_flipEncoder (input : EncoderInput) (s : State) (travel : Travel) (rest : Int) :
    countedTo travel rest (flipEncoder input s) =
      { s with
        track :=
          { s.track with
            encA := if input = .encA then !s.track.encA else s.track.encA
            encB := if input = .encB then !s.track.encB else s.track.encB
            travel := travel
            remainder := rest
            countsInForce := s.cfg.line.countsPerMm
            eyeIn := s.track.eyeIn.follow s.track.travel s.gateInOpen
            eyeCk := s.track.eyeCk.follow s.track.travel s.gateInOpen } } := by
  cases input <;> rfl

theorem countedRemainder_flipEncoder (forward : Bool) (input : EncoderInput) (s : State) :
    (flipEncoder input s).countedRemainder forward = s.countedRemainder forward := by
  cases input <;> rfl

/-- What a quadrature edge does, by the remainder it makes. -/
theorem encoderEdge_eq (input : EncoderInput) (s : State) :
    encoderEdge input s =
      let u := flipEncoder input s
      let r := s.countedRemainder (forwardEdge s.track.encA s.track.encB input)
      let cpm : Int := s.cfg.line.countsPerMm
      if cpm ≤ r then afterTravel (countedTo (s.track.travel + 1) (r - cpm) u)
      else if r ≤ -cpm then afterTravel (countedTo (s.track.travel - 1) (r + cpm) u)
      else countedTo s.track.travel r u := by
  unfold encoderEdge
  rw [count_eq, countedRemainder_flipEncoder]
  cases input <;> rfl

/-- The course after a quadrature edge. -/
theorem encoderEdge_course (input : EncoderInput) (s : State) :
    let r := s.countedRemainder (forwardEdge s.track.encA s.track.encB input)
    let m := movedTo s.track.travel r s.cfg.line.countsPerMm
    (encoderEdge input s).course = (countedTo m.1 m.2 (flipEncoder input s)).course := by
  unfold encoderEdge
  rw [count_course, countedRemainder_flipEncoder]
  cases input <;> rfl

/-- Settles O9: the whole next state by the three cases of `encoderEdge_eq`, and the course of it, which
what a millimetre starts leaves alone. -/
theorem countsMoveTravel : Obligations.CountsMoveTravel := by
  refine ⟨?_, ?_, ?_⟩
  · intro input s hpower hforce forward r cpm counted travelled
    have hr : s.countedRemainder (forwardEdge s.track.encA s.track.encB input) = r := by
      simp only [State.countedRemainder, State.keptRemainder, if_pos hforce]
      cases input <;> rfl
    have hcounted (travel : Travel) (rest : Int) :
        countedTo travel rest (flipEncoder input s) = counted travel rest := by
      rw [countedTo_flipEncoder, ← hforce]
    have hexec := exec_encoderCount input hpower
    simp only [encoderEdge_eq, hr, hcounted] at hexec
    refine ⟨fun hlt hgt => ?_, fun hle => ?_, fun hlt hle => ?_⟩
    · rw [hexec, if_neg (Int.not_le.2 hlt), if_neg (Int.not_le.2 hgt)]
    · rw [hexec, if_pos hle]
      rfl
    · rw [hexec, if_neg (Int.not_le.2 hlt), if_pos hle]
      rfl
  · intro input s t hpower ht forward cpm kept r
    have hr : s.countedRemainder (forwardEdge s.track.encA s.track.encB input) = r := by
      cases input <;> rfl
    rw [exec_encoderCount input hpower] at ht
    cases ht
    have hcourse := (settle_course _).trans (encoderEdge_course input s)
    rw [hr, countedTo_flipEncoder, State.course_eq_iff] at hcourse
    obtain ⟨hA, hB, htravel, hrest, hforce, hspeed, hstart, hend, hprinter, hstore, hreplies, hmasks⟩ :=
      hcourse
    refine ⟨fun hle => ?_, fun hlt hle => ?_, fun hlt hgt => ?_, hforce, hA, hB, hspeed, hstart, hend,
      hprinter, store_with_lastCheck hstore, hreplies, hmasks⟩
    · rw [movedTo_forward hle] at htravel hrest
      exact ⟨htravel, hrest⟩
    · rw [movedTo_reverse hlt hle] at htravel hrest
      exact ⟨htravel, hrest⟩
    · rw [movedTo_short hlt hgt] at htravel hrest
      exact ⟨htravel, hrest⟩
  · intro s hpower
    have hexec : exec .speedIntervalEnd s = .next (settle (endInterval s)) := live_powered s _ hpower
    refine ⟨fun hdue => ?_, fun hnot => ?_⟩
    · rw [hexec, endInterval, if_pos hdue, speedOf_eq]
      rfl
    · rw [hexec, endInterval, if_neg (Nat.not_le.2 hnot)]

end Sys2Proof.Machine

namespace Sys2Proof.Machine

/-! ## Admission (R4, R5) -/

/-- Settles O11: the search of 65 cannot pass over held numbers alone, and the admitted record stands at
the tail of the track. -/
theorem admissionGivesFreeNumbers : Obligations.AdmissionGivesFreeNumbers := by
  refine ⟨fun held n hheld hn => ⟨freeNumber_not_mem hheld hn, freeNumber_ne_zero held 65 hn⟩,
    fun c s => ⟨fun hgate hroom => ?_, admitStrip_none⟩⟩
  rw [admitStrip_room hgate hroom, afterCount_track]
  exact ⟨newStrip s.track.nextSerial s.freeNumber c.start, rfl, rfl, rfl, rfl, rfl, rfl, rfl, rfl, rfl,
    rfl, rfl, rfl, rfl, rfl, rfl⟩

/-! ## The expiry of candidates (R13, R16) -/

theorem modifySerial_eq (id : Nat) (f : Strip → Strip) (s : State) :
    modifySerial id f s = { s with track := { s.track with strips := stripsWith id f s } } := by
  simp [modifySerial, stripsWith]

/-- With every record MATCHED there is no candidate (R13). -/
theorem candidate_eq_none {s : State} (h : ∀ q ∈ s.track.strips, q.check = .matched) :
    s.candidate = none :=
  List.find?_eq_none.2 fun q hq => by simp [h q hq]

/-- The candidate is the first record still UNCHECKED (R13). -/
theorem candidate_eq_some {s : State} {pre post : List Strip} {r : Strip}
    (hstrips : s.track.strips = pre ++ r :: post) (hpre : ∀ q ∈ pre, q.check = .matched)
    (hr : r.check = .unchecked) : s.candidate = some r := by
  have hnone : pre.find? (fun q => q.check == .unchecked) = none :=
    List.find?_eq_none.2 fun q hq => by simp [hpre q hq]
  rw [State.candidate, hstrips, List.find?_append, hnone]
  simp [hr]

/-- An edge is in judgement while its change is pending or it awaits its judgement (R13). -/
theorem inJudgement_iff (s : State) :
    s.inJudgement = true ↔
      (s.track.eyeCk.pending ≠ none ∧ s.track.eyeCk.accepted = false) ∨
        ∃ e, s.track.ckEdge = .awaiting e := by
  unfold State.inJudgement
  cases s.track.ckEdge <;> simp [Option.isSome_iff_ne_none]

theorem loseRecord_length_lt {r : Strip} {s : State} (hr : r ∈ s.track.strips) :
    (loseRecord r s).track.strips.length < s.track.strips.length := by
  simp only [loseRecord, afterCount_track, give_track, leaveTrack_track]
  exact List.length_filter_lt_length_iff_exists.2 ⟨r, hr, by simp⟩

theorem expireCandidates_of_no_candidate (fuel : Nat) {s : State} (h : s.candidate = none) :
    expireCandidates fuel s = s := by
  cases fuel with
  | zero => rfl
  | succ fuel => simp [expireCandidates, h]

/-- Fuel for every record is enough, and more changes nothing. -/
theorem expireCandidates_fuel {m n : Nat} {s : State} (hm : s.track.strips.length ≤ m)
    (hn : s.track.strips.length ≤ n) : expireCandidates m s = expireCandidates n s := by
  induction m generalizing n s with
  | zero =>
    have hnone : s.candidate = none :=
      candidate_eq_none (by simp [List.length_eq_zero_iff.1 (Nat.le_zero.1 hm)])
    rw [expireCandidates_of_no_candidate n hnone]
    rfl
  | succ m ih =>
    cases n with
    | zero =>
      have hnone : s.candidate = none :=
        candidate_eq_none (by simp [List.length_eq_zero_iff.1 (Nat.le_zero.1 hn)])
      exact expireCandidates_of_no_candidate _ hnone
    | succ n =>
      unfold expireCandidates
      split
      · rfl
      · split
        · rfl
        · rename_i r hr
          have := loseRecord_length_lt (candidate_mem hr)
          split
          · exact ih (by omega) (by omega)
          · rfl

theorem expiryTest_of_judging {s : State} (h : s.inJudgement = true) : expiryTest s = s := by
  unfold expiryTest
  cases s.track.strips.length <;> simp [expireCandidates, h]

theorem expiryTest_of_no_candidate {s : State} (h : s.candidate = none) : expiryTest s = s :=
  expireCandidates_of_no_candidate _ h

/-- The expiry test of a candidate: it stays, or it is lost and the next is looked at (R13). -/
theorem expiryTest_of_candidate {s : State} {r : Strip} (hjudging : s.inJudgement = false)
    (hr : s.candidate = some r) :
    expiryTest s =
      if (s.cfg.line.pck : Int) + s.cfg.line.checkTolerance < r.leading s.track.travel then
        expiryTest (loseRecord r s)
      else s := by
  have hlt := loseRecord_length_lt (candidate_mem hr)
  obtain ⟨m, hm⟩ : ∃ m, s.track.strips.length = m + 1 := ⟨s.track.strips.length - 1, by omega⟩
  have hfuel : expireCandidates m (loseRecord r s) = expiryTest (loseRecord r s) :=
    expireCandidates_fuel (by omega) (Nat.le_refl _)
  rw [expiryTest, hm, expireCandidates]
  simp [hjudging, hr, hfuel]

theorem withdrawScan_link (n : StripNo) (s : State) : (withdrawScan n s).link = s.link := by
  unfold withdrawScan
  dsimp only
  split <;> rfl

theorem withdrawOrder_link (r : Strip) (s : State) : (withdrawOrder r s).link = s.link := by
  unfold withdrawOrder
  split <;> rfl

theorem withdrawEntry_link (n : StripNo) (s : State) : (withdrawEntry n s).link = s.link := by
  rcases withdrawEntry_cases n s with ⟨_, h⟩ | ⟨_, h⟩ <;> rw [h]

theorem moveTransit_link (f : Nat → Nat) (d : Destination) (s : State) :
    (moveTransit f d s).link = s.link := by
  unfold moveTransit
  split <;> rfl

/-- A record leaves without an event of its own. -/
theorem leaveTrack_link (r : Strip) (s : State) : (leaveTrack r s).link = s.link := by
  have hwithdrawn (u : State) :
      (withdrawEntry r.number (withdrawRequests r.number
        (withdrawOrder r (withdrawScan r.number u)))).link = u.link :=
    (withdrawEntry_link _ _).trans <| (withdrawOrder_link _ _).trans (withdrawScan_link _ _)
  unfold leaveTrack
  dsimp only
  split
  · exact (moveTransit_link _ _ _).trans (hwithdrawn _)
  · exact hwithdrawn _

/-- A lost record leaves, counted, and a LOST event carries its number (R16). -/
theorem loseRecord_eq (r : Strip) (s : State) :
    loseRecord r s =
      afterCount
        { leaveTrack r s with
          track :=
            { (leaveTrack r s).track with
              stats := { (leaveTrack r s).track.stats with lost := s.track.stats.lost + 1 } }
          link := linkAfter [.lost r.number] s } := by
  have hlost : (leaveTrack r s).track.stats.lost = s.track.stats.lost := by rw [leaveTrack_track]
  simp only [loseRecord, give, linkAfter, List.foldl, leaveTrack_link, hlost]

/-! ## The check eye (R13 to R17) -/

theorem travelJudgement_awaiting {s : State} {e : Travel} (h : s.track.ckEdge = .awaiting e) :
    travelJudgement s =
      if s.track.eyeCk.input = true ∧ 150 ≤ travelDiff s.track.travel e then judgeEdge e s else s := by
  simp [travelJudgement, h]

theorem travelJudgement_self {s : State} (h : ∀ e, s.track.ckEdge ≠ .awaiting e) :
    travelJudgement s = s := by
  unfold travelJudgement
  split
  · rename_i e he
    exact absurd he (h e)
  · rfl

theorem setCheckLength_judged {s : State} {e : Travel} {id : Nat} (start : Travel)
    (h : s.track.ckEdge = .judged e (some id)) :
    setCheckLength start s =
      modifySerial id
        (fun q => { q with current := some (min (travelDiff start e).toNat 65535) }) s := by
  simp [setCheckLength, h]

/-- Settles O14: the judgement of an edge by its stage, and the expiry test by its candidate. -/
theorem checkEyeEdgesAreTaken : Obligations.CheckEyeEdgesAreTaken := by
  refine ⟨fun e s hedge => ⟨fun hinput hfar => ?_, fun hnot => ?_⟩, fun s => travelJudgement_self,
    ?_, ?_⟩
  · rw [travelJudgement_awaiting hedge, if_pos ⟨hinput, hfar⟩]
  · rw [travelJudgement_awaiting hedge, if_neg]
    rintro ⟨hinput, hfar⟩
    rcases hnot with hclear | hnear
    · simp [hclear] at hinput
    · exact absurd hnear (Int.not_lt.2 hfar)
  · intro start e s gone len
    refine ⟨fun hedge => ?_, fun hedge hlt => ?_, fun hedge hle => ?_, fun hedge => ?_,
      fun id hedge => ?_⟩
    · simp only [closeCkEdge, hedge]
    · simp only [closeCkEdge, hedge]
      exact if_neg (Int.not_le.2 hlt)
    · simp only [closeCkEdge, hedge]
      exact if_pos hle
    · simp only [closeCkEdge, setCheckLength, hedge]
      rfl
    · have hset : setCheckLength start s = _ :=
        (setCheckLength_judged start hedge).trans (modifySerial_eq _ _ s)
      refine ⟨hset, ?_⟩
      simp only [closeCkEdge, hedge, hset]
      rfl
  · intro s judging
    refine ⟨fun h => expiryTest_of_judging ((inJudgement_iff s).2 h),
      fun h => expiryTest_of_no_candidate (candidate_eq_none h), ?_⟩
    intro pre r post hnot hstrips hpre hr x left lost
    have hjudging : s.inJudgement = false := by
      rw [← Bool.not_eq_true, inJudgement_iff]
      exact hnot
    rw [expiryTest_of_candidate hjudging (candidate_eq_some hstrips hpre hr), loseRecord_eq]
    exact ⟨fun hle => if_neg (Int.not_lt.2 hle), fun hlt => if_pos hlt⟩

end Sys2Proof.Machine

namespace Sys2Proof.Machine

/-! ### The judgement of an edge (R14, R15) -/

/-- Serials that occur once tell a record from those ahead of it and behind it. -/
theorem serial_ne_of_nodup {pre post : List Strip} {r : Strip}
    (h : ((pre ++ r :: post).map (·.serial)).Nodup) :
    (∀ q ∈ pre, q.serial ≠ r.serial) ∧ ∀ q ∈ post, q.serial ≠ r.serial := by
  rw [List.map_append, List.map_cons, List.perm_middle.nodup_iff, List.nodup_cons,
    ← List.map_append, List.mem_map] at h
  exact ⟨fun q hq he => h.1 ⟨q, List.mem_append_left _ hq, he⟩,
    fun q hq he => h.1 ⟨q, List.mem_append_right _ hq, he⟩⟩

/-- A change of the records of a serial changes the one record that has it. -/
theorem stripsWith_at {s : State} {pre post : List Strip} {r : Strip} (f : Strip → Strip)
    (hstrips : s.track.strips = pre ++ r :: post) (hnodup : (s.track.strips.map (·.serial)).Nodup) :
    stripsWith r.serial f s = pre ++ f r :: post := by
  rw [hstrips] at hnodup
  obtain ⟨hpre, hpost⟩ := serial_ne_of_nodup hnodup
  have hself {l : List Strip} (h : ∀ q ∈ l, q.serial ≠ r.serial) :
      l.map (fun q => if q.serial = r.serial then f q else q) = l :=
    (List.map_congr_left fun q hq => if_neg (h q hq)).trans (List.map_id l)
  rw [stripsWith, hstrips, List.map_append, List.map_cons, hself hpre, hself hpost, if_pos rfl]

theorem insertAhead_at {pre post : List Strip} {r : Strip} (p : Strip)
    (h : ∀ q ∈ pre, q.serial ≠ r.serial) :
    insertAhead p (some r.serial) (pre ++ r :: post) = pre ++ p :: r :: post := by
  induction pre with
  | nil => simp [insertAhead]
  | cons q pre ih =>
    have hq : ¬ r.serial = q.serial := fun he => h q List.mem_cons_self he.symm
    simp [insertAhead, hq, ih fun q' hq' => h q' (List.mem_cons_of_mem q hq')]

theorem insertAhead_tail (p : Strip) (l : List Strip) : insertAhead p none l = l ++ [p] := by
  induction l with
  | nil => rfl
  | cons q l ih => simp [insertAhead, ih]

theorem followerOf_at {pre post : List Strip} {r : Strip} (h : ∀ q ∈ pre, q.serial ≠ r.serial) :
    followerOf r.serial (pre ++ r :: post) = post.head? := by
  induction pre with
  | nil => cases post <;> simp [followerOf]
  | cons q pre ih =>
    have hq : q.serial ≠ r.serial := h q List.mem_cons_self
    have ih' := ih fun q' hq' => h q' (List.mem_cons_of_mem q hq')
    cases pre with
    | nil => simpa [followerOf, hq] using ih'
    | cons q' pre => simpa [followerOf, hq] using ih'

/-- A candidate within the tolerance is matched (R14). -/
theorem judgeEdge_match {e : Travel} {s : State} {r : Strip} (hr : s.candidate = some r)
    (hlow : -(s.cfg.line.checkTolerance : Int) ≤ r.leading e - s.cfg.line.pck)
    (hhigh : r.leading e - s.cfg.line.pck ≤ s.cfg.line.checkTolerance) :
    judgeEdge e s =
      expiryTest
        (matchCandidate r e
          { s with track := { s.track with ckEdge := .judged e (some r.serial) } }) := by
  simp only [judgeEdge, hr]
  exact if_pos ⟨hlow, hhigh⟩

/-- An edge ahead of the candidate's place makes a phantom ahead of it (R14, R15). -/
theorem judgeEdge_early {e : Travel} {s : State} {r : Strip} (hr : s.candidate = some r)
    (hlow : r.leading e - s.cfg.line.pck < -(s.cfg.line.checkTolerance : Int)) :
    judgeEdge e s = expiryTest (makePhantom e (some r.serial) s) := by
  simp only [judgeEdge, hr]
  exact if_neg fun h => absurd h.1 (Int.not_le.2 hlow)

theorem judgeEdge_no_candidate (e : Travel) {s : State} (h : s.candidate = none) :
    judgeEdge e s = expiryTest (makePhantom e none s) := by
  simp only [judgeEdge, h]

/-- Whether a match would bring the candidate to or behind the record that follows it (R14). -/
def matchBehind (r : Strip) (e : Travel) (s : State) : Prop :=
  ∃ q, followerOf r.serial s.track.strips = some q ∧
    travelDiff s.track.travel (matchedReference s e) ≤ q.leading s.track.travel

/-- The match of a candidate, by whether the record that follows stands in the way (R14). -/
theorem matchCandidate_cases (r : Strip) (e : Travel) (s : State) :
    (matchBehind r e s ∧
        matchCandidate r e s = modifySerial r.serial (fun q => { q with check := .matched }) s) ∨
      (¬ matchBehind r e s ∧
        matchCandidate r e s =
          modifySerial r.serial
            (fun q =>
              { q with check := .matched, adjustment := matchedReference s e - q.admission }) s) := by
  unfold matchCandidate matchBehind
  cases followerOf r.serial s.track.strips with
  | none => simp
  | some q =>
    by_cases h : travelDiff s.track.travel (matchedReference s e) ≤ q.leading s.track.travel <;>
      simp [h]

/-- Settles O13: the candidate stands between the MATCHED records and the rest, and its serial, which no
other record has, places the match or the phantom. -/
theorem checkEyeEdgesAreJudged : Obligations.CheckEyeEdgesAreJudged := by
  intro e s ref pos tol phantom judged made untracked
  have hmade (ahead : Option Nat) (hroom : s.track.strips.length < 64) :
      makePhantom e ahead s = made (insertAhead phantom ahead s.track.strips) :=
    makePhantom_room e ahead hroom
  have hfull (ahead : Option Nat) (hfull : 64 ≤ s.track.strips.length) :
      makePhantom e ahead s = untracked := makePhantom_full e ahead hfull
  constructor
  · intro pre r post hstrips hpre hr hnodup d behind matched
    have hcand := candidate_eq_some hstrips hpre hr
    have hahead := (serial_ne_of_nodup (hstrips ▸ hnodup)).1
    let u : State := { s with track := { s.track with ckEdge := .judged e (some r.serial) } }
    have hbehind : matchBehind r e u ↔ behind := by
      unfold matchBehind
      rw [show u.track.strips = pre ++ r :: post from hstrips, followerOf_at hahead]
      constructor
      · rintro ⟨q, hq, hle⟩
        obtain ⟨rest, rfl⟩ := List.head?_eq_some_iff.1 hq
        exact ⟨q, rest, rfl, hle⟩
      · rintro ⟨q, rest, rfl, hle⟩
        exact ⟨q, rfl, hle⟩
    have hmodified (f : Strip → Strip) :
        modifySerial r.serial f u =
          { u with track := { u.track with strips := pre ++ f r :: post } } := by
      rw [modifySerial_eq, stripsWith_at f (show u.track.strips = _ from hstrips) hnodup]
    refine ⟨fun hlow hhigh hfree => ?_, fun hlow hhigh hblocked => ?_, fun hlow hroom => ?_,
      fun hlow hfull' => ?_⟩
    · rw [judgeEdge_match hcand hlow hhigh]
      rcases matchCandidate_cases r e u with ⟨h, _⟩ | ⟨_, h⟩
      · exact absurd (hbehind.1 h) hfree
      · rw [h, hmodified]
        rfl
    · rw [judgeEdge_match hcand hlow hhigh]
      rcases matchCandidate_cases r e u with ⟨_, h⟩ | ⟨h, _⟩
      · rw [h, hmodified]
      · exact absurd (hbehind.2 hblocked) h
    · rw [judgeEdge_early hcand hlow, hmade _ hroom, hstrips, insertAhead_at _ hahead]
    · rw [judgeEdge_early hcand hlow, hfull _ hfull']
  · intro hall
    have hnone := candidate_eq_none hall
    refine ⟨fun hroom => ?_, fun hfull' => ?_⟩
    · rw [judgeEdge_no_candidate e hnone, hmade _ hroom, insertAhead_tail]
    · rw [judgeEdge_no_candidate e hnone, hfull _ hfull']

end Sys2Proof.Machine

namespace Sys2Proof.Machine

/-! ## Passing events (R12) -/

theorem raiseEvent_absent {id : Nat} {s : State} (e : PassEvent) (h : s.stripSerial id = none) :
    raiseEvent id s e = s := by
  simp only [raiseEvent, h]

theorem raiseEvent_present {id : Nat} {s : State} {r : Strip} (e : PassEvent)
    (h : s.stripSerial id = some r) :
    raiseEvent id s e =
      if eventDue s r e then
        takeEvent { r with raised := e :: r.raised }
          (modifySerial id (fun q => { q with raised := e :: q.raised }) s) e
      else s := by
  simp only [raiseEvent, h]

/-- A record's length, its current one first (R9). -/
theorem Strip.length_eq (r : Strip) :
    r.length = if r.current = none then r.infeed else r.current := by
  unfold Strip.length
  cases r.current <;> rfl

/-- The trailing edge's events are the last four of R12's table. -/
theorem PassEvent.isTrailing_iff (e : PassEvent) :
    e.isTrailing = true ↔ e = .pmoTrail ∨ e = .pemTrail ∨ e = .pbTrail ∨ e = .pendTrail := by
  cases e <;> simp [PassEvent.isTrailing]

/-- The edge an event is of (R9, R12). -/
theorem Strip.edge_eq (r : Strip) (e : PassEvent) (t : Travel) :
    r.edge e t =
      if e = .pmoTrail ∨ e = .pemTrail ∨ e = .pbTrail ∨ e = .pendTrail then
        (if r.current = none then r.infeed else r.current).map (fun n => r.leading t - n)
      else some (r.leading t) := by
  unfold Strip.edge Strip.trailing
  rw [Strip.length_eq]
  simp only [PassEvent.isTrailing_iff]

theorem announce_phantom {r : Strip} (s : State) (h : r.origin = .phantom) : announce r s = s := by
  simp [announce, Strip.isPhantom, h]

theorem announce_admitted {r : Strip} (s : State) (h : r.origin = .admitted) :
    announce r s =
      sendScanner (announceFrame r.number)
        { modifySerial r.serial (fun q => { q with scan := .announced }) s with
          scanner := { s.scanner with announces := s.scanner.announces ++ [r.number] } } := by
  simp [announce, Strip.isPhantom, h]

theorem confirmationDeadline_other {r : Strip} (s : State) (h : r.cut ≠ .ordered) :
    confirmationDeadline r s = s := by
  unfold confirmationDeadline
  split
  · exact absurd ‹_› h
  · rfl

/-- Settles O16: what is due is said by the event's point and its edge. -/
theorem passingEventsAreRaised : Obligations.PassingEventsAreRaised := by
  refine ⟨fun s => rfl, fun id e s => raiseEvent_absent e, ?_, ?_⟩
  · intro id e r s hr l drop point leading length edge due
    have hpoint : eventPoint s.cfg.line r e = point := by
      cases e with
      | pbLead | pbTrail =>
        unfold eventPoint
        simp only [point, drop]
        cases r.bay with
        | none => rfl
        | some d => cases d <;> rfl
      | _ => rfl
    have hedge : r.edge e s.track.travel = edge := r.edge_eq e _
    have hdue : eventDue s r e = true ↔ due := by
      rw [eventDue_iff, hpoint, hedge]
    rw [raiseEvent_present e hr, modifySerial_eq]
    exact ⟨fun h => if_pos (hdue.2 h), fun h => if_neg (mt hdue.1 h)⟩
  · intro r s
    refine ⟨announce_phantom s, fun h => ?_, confirmationDeadline_other s, fun h => ?_, rfl, rfl⟩
    · refine (announce_admitted s h).trans ?_
      rw [modifySerial_eq]
      rfl
    · simp only [takeEvent, confirmationDeadline, h, modifySerial_eq]
      rfl

/-! ## Eye filters (R3) -/

theorem markJoined_self {s : State} (h : s.track.inAdmission = none) : markJoined s = s := by
  simp only [markJoined, h]

theorem exec_eyeInputChange {s : State} (eye : Eye) (b : Bool) (h : s.powered = true) :
    exec (.eyeInputChange eye b) s = .next (settle (eyeInput eye b s)) := by
  change (if s.powered then live s (eyeInput eye b) else _) = _
  rw [if_pos h, live_powered s _ h]

/-- A level that differs from the accepted one has its change pending once the filter has looked (R3). -/
theorem EyeFilter.follow_pending {f : EyeFilter} (travel : Travel) (g : Bool)
    (h : f.input ≠ f.accepted) : (f.follow travel g).pending ≠ none := by
  unfold EyeFilter.follow
  rw [if_neg h]
  split
  · rename_i hp
    exact Option.isSome_iff_ne_none.1 hp
  · simp

theorem EyeFilter.follow_accepted (f : EyeFilter) (travel : Travel) (g : Bool) :
    (f.follow travel g).accepted = f.accepted := by
  unfold EyeFilter.follow
  repeat' split
  all_goals rfl

/-- A clear eye that becomes blocked puts a leading edge in judgement (R13). -/
theorem inJudgement_of_blocked {s : State} (h : s.track.eyeCk.accepted = false) :
    (followEyes (seeEye .eyeCk true s)).inJudgement = true := by
  refine (inJudgement_iff _).2 (.inl ⟨EyeFilter.follow_pending _ _ ?_, ?_⟩)
  · show true ≠ s.track.eyeCk.accepted
    simp [h]
  · exact (EyeFilter.follow_accepted _ _ _).trans h

/-- Until a pending change has come its filter distance, EYE-IN's filter hands nothing on (R3). -/
theorem filterEyeIn_waits {s : State}
    (h : ∀ c, s.track.eyeIn.pending = some c →
      travelDiff s.track.travel c.start < s.cfg.line.eyeInFilter) : filterEyeIn s = s := by
  unfold filterEyeIn
  split
  · rename_i c hc
    exact if_neg (Int.not_le.2 (h c hc))
  · rfl

theorem filterEyeCk_waits {s : State}
    (h : ∀ c, s.track.eyeCk.pending = some c →
      travelDiff s.track.travel c.start < s.cfg.line.eyeCkFilter) : filterEyeCk s = s := by
  unfold filterEyeCk
  split
  · rename_i c hc
    exact if_neg (Int.not_le.2 (h c hc))
  · rfl

/-- At the filter distance EYE-IN's change is accepted and its edge goes to admission (R3). -/
theorem filterEyeIn_accepts {s : State} {c : PendingChange} (hc : s.track.eyeIn.pending = some c)
    (hle : (s.cfg.line.eyeInFilter : Int) ≤ travelDiff s.track.travel c.start) :
    filterEyeIn s =
      let u : State := { s with track := { s.track with eyeIn := s.track.eyeIn.accept } }
      if s.track.eyeIn.accepted = false then admitStrip c u else endAdmission c.start u := by
  simp only [filterEyeIn, hc, if_pos hle, Bool.not_eq_true']

/-- At the filter distance EYE-CK's change is accepted and its edge goes to check-eye matching (R3). -/
theorem filterEyeCk_accepts {s : State} {c : PendingChange} (hc : s.track.eyeCk.pending = some c)
    (hle : (s.cfg.line.eyeCkFilter : Int) ≤ travelDiff s.track.travel c.start) :
    filterEyeCk s =
      let u : State := { s with track := { s.track with eyeCk := s.track.eyeCk.accept } }
      if s.track.eyeCk.accepted = false then
        { u with track := { u.track with ckEdge := .awaiting c.start } }
      else closeCkEdge c.start u := by
  simp only [filterEyeCk, hc, if_pos hle, Bool.not_eq_true']

/-- Settles O10: the follow of a filter by its three cases, and the filters by whether the change has
come its distance. -/
theorem eyeChangesPend : Obligations.EyeChangesPend := by
  refine ⟨fun f travel g => ⟨fun h => if_pos h, fun h hp => ?_, fun h hp => ?_⟩, ?_, ?_⟩
  · rw [EyeFilter.follow, if_neg h, if_pos (Option.isSome_iff_ne_none.2 hp)]
  · rw [EyeFilter.follow, if_neg h, if_neg (by simp [hp])]
  · intro b s hpower seen watched changedIn changedCk
    have hexecIn : exec (.eyeInputChange .eyeIn b) s = .next (settle (markJoined changedIn)) :=
      exec_eyeInputChange .eyeIn b hpower
    have hexecCk : exec (.eyeInputChange .eyeCk b) s = .next (settle (expiryTest changedCk)) :=
      exec_eyeInputChange .eyeCk b hpower
    refine ⟨hexecIn, hexecCk, fun hnone => ?_, fun hquiet => ?_⟩
    · rw [hexecIn, markJoined_self (show changedIn.track.inAdmission = none from hnone)]
    · rw [hexecCk]
      rcases hquiet with hnone | ⟨rfl, hclear⟩
      · rw [expiryTest_of_no_candidate (show changedCk.candidate = none from hnone)]
      · rw [expiryTest_of_judging
          (show changedCk.inJudgement = true from inJudgement_of_blocked hclear)]
  · intro s
    refine ⟨?_, filterEyeIn_waits, ?_, filterEyeCk_waits⟩
    · intro c hc hle taken
      rw [filterEyeIn_accepts hc hle]
      constructor <;> intro haccepted <;> simp only [taken, EyeFilter.accept, haccepted] <;> rfl
    · intro c hc hle taken
      rw [filterEyeCk_accepts hc hle]
      constructor <;> intro haccepted <;> simp only [taken, EyeFilter.accept, haccepted] <;> rfl

end Sys2Proof.Machine

namespace Sys2Proof.Machine

/-! ## The saw's replies (R85 to R87, R119) -/

theorem exec_sawDone {s : State} (n : StripNo) (h : s.powered = true) :
    exec (.sawDone n) s = .next (settle (takeDone n s)) :=
  live_powered s (takeDone n) h

theorem exec_sawFault {s : State} (n : StripNo) (code : Byte) (h : s.powered = true) :
    exec (.sawFault n code) s = .next (settle (takeSawFault n code s)) :=
  live_powered s (takeSawFault n code) h

/-- The record found under a number carries it. -/
theorem stripNo_number {s : State} {n : StripNo} {r : Strip} (h : s.stripNo n = some r) :
    r.number = n := by
  have hfound : (r.number == n && n != 0) = true :=
    List.find?_some (p := fun q : Strip => q.number == n && n != 0) h
  exact eq_of_beq (Bool.and_eq_true_iff.1 hfound).1

/-! ### DONE (R85, R86) -/

/-- With its order outstanding, a DONE applies that order's cut, and the order leaves the list (R86). -/
theorem confirmOrder_eq {s : State} {r : Strip} {o : Order}
    (ho : s.saw.orders.find? (fun o => o.strip == r.number) = some o) :
    confirmOrder r s =
      { s with
        track := { s.track with strips := stripsWith r.serial (applyCut o.form) s }
        saw :=
          { s.saw with
            orders := s.saw.orders.filter (fun o => o.strip != r.number)
            confirmed := sat16 s.saw.confirmed } } := by
  simp only [confirmOrder, ho, modifySerial_eq]
  rfl

/-- A DONE is judged by the record that carries its number once the message is off the line (R85). -/
theorem takeDone_ordered {s : State} {n : StripNo} {r : Strip} (hr : s.stripNo n = some r)
    (hcut : r.cut = .ordered) : takeDone n s = confirmOrder r (clearSawRx s) := by
  have hr' : (clearSawRx s).stripNo n = some r := hr
  simp only [takeDone, hr', hcut]

theorem takeDone_unconfirmed {s : State} {n : StripNo} {r : Strip} (hr : s.stripNo n = some r)
    (hcut : r.cut = .unconfirmed) :
    takeDone n s =
      { s with
        saw := { s.saw.hunting with lateReplies := sat16 s.saw.lateReplies }
        link := linkAfter [.lateReply n] s } := by
  have hr' : (clearSawRx s).stripNo n = some r := hr
  simp only [takeDone, hr', hcut]
  rfl

theorem takeDone_stray {s : State} {n : StripNo}
    (h : s.stripNo n = none ∨ ∃ r, s.stripNo n = some r ∧ r.cut ≠ .ordered ∧ r.cut ≠ .unconfirmed) :
    takeDone n s = strayDone n (clearSawRx s) := by
  rcases h with hnone | ⟨r, hr, hordered, hunconfirmed⟩
  · have hnone' : (clearSawRx s).stripNo n = none := hnone
    simp only [takeDone, hnone']
  · have hr' : (clearSawRx s).stripNo n = some r := hr
    -- the last row: `hordered` and `hunconfirmed` rule out the two before it
    simp only [takeDone, hr']

/-! ### SAWFAULT (R87, R119) -/

/-- What every SAWFAULT does before its record is looked at: alarm SAW, the FAULT event, the last fault
and the fault counter (R87). -/
def faultNoted (n : StripNo) (code : Byte) (s : State) : State :=
  { s with
    sup := { s.sup with alarms := alarmsWith .saw s }
    saw := { s.saw.hunting with lastFault := some (n, code), faults := sat16 s.saw.faults }
    link := linkAfter [.sawFault n code] s }

theorem takeSawFault_eq (n : StripNo) (code : Byte) (s : State) :
    takeSawFault n code s = faultRecord n (faultNoted n code s) := rfl

/-- A record with an order and without a route becomes FAULTED, and its order leaves the list (R87). -/
theorem faultRecord_marks {s : State} {n : StripNo} {r : Strip} (hr : s.stripNo n = some r)
    (hcut : r.cut = .ordered ∨ r.cut = .confirmed ∨ r.cut = .unconfirmed) (hroute : r.route = none) :
    faultRecord n s =
      { s with
        track :=
          { s.track with strips := stripsWith r.serial (fun q => { q with cut := .faulted }) s }
        saw := { s.saw with orders := s.saw.orders.filter (fun o => o.strip != n) } } := by
  have hmarked : faultRecord n s =
      modifySerial r.serial (fun q => { q with cut := .faulted }) (removeOrder n s) := by
    rcases hcut with h | h | h <;> simp [faultRecord, hr, h, hroute]
  rw [hmarked, modifySerial_eq]
  rfl

/-- No record, one without an order, or one with a route, FAULTED or not, is a stray reply (R87, R119). -/
theorem faultRecord_stray {s : State} {n : StripNo}
    (h : s.stripNo n = none ∨ ∃ r, s.stripNo n = some r ∧ (r.cut = .none ∨ r.route ≠ none)) :
    faultRecord n s = { s with saw := { s.saw with strayReplies := sat16 s.saw.strayReplies } } := by
  rcases h with hnone | ⟨r, hr, hcut | hroute⟩
  · simp only [faultRecord, hnone]
  · simp only [faultRecord, hr, hcut]
  · have hrouted : r.route.isSome = true := Option.isSome_iff_ne_none.2 hroute
    cases hcut : r.cut <;> simp [faultRecord, hr, hcut, hrouted]

theorem faultRecord_faulted {s : State} {n : StripNo} {r : Strip} (hr : s.stripNo n = some r)
    (hcut : r.cut = .faulted) (hroute : r.route = none) : faultRecord n s = s := by
  simp [faultRecord, hr, hcut, hroute]

/-- Settles O26: DONE and SAWFAULT by the record that carries their number, its cut state and its
route. -/
theorem sawRepliesAreJudged : Obligations.SawRepliesAreJudged := by
  refine ⟨?_, ?_⟩
  · intro n s hpower
    rw [exec_sawDone n hpower]
    refine ⟨fun r o hr hcut ho => ?_, fun r hr hcut => ?_, fun hstray => ?_⟩
    · obtain rfl := stripNo_number hr
      rw [takeDone_ordered hr hcut, confirmOrder_eq (s := clearSawRx s) ho]
      rfl
    · rw [takeDone_unconfirmed hr hcut]
    · rw [takeDone_stray hstray]
      rfl
  · intro n code s hpower saw u
    have hexec : exec (.sawFault n code) s = .next (settle (faultRecord n u)) := by
      rw [exec_sawFault n code hpower, takeSawFault_eq]
      rfl
    have hfind : u.stripNo n = s.stripNo n := rfl
    rw [hexec, ← hfind]
    refine ⟨fun r hr hcut hroute => ?_, fun hstray => ?_, fun r hr hcut hroute => ?_⟩
    · rw [faultRecord_marks hr hcut hroute]
      rfl
    · rw [faultRecord_stray hstray]
      rfl
    · rw [faultRecord_faulted hr hcut hroute]

end Sys2Proof.Machine

namespace Sys2Proof.Machine

/-! ## The assignment at Psa (R115 to R121, R130, R134) -/

/-! ### The route (R118) -/

/-- The last rows of R118's table, for a record that no row before them has routed. -/
def plannedRoute (r : Strip) : Route :=
  match r.plan with
  | some (.default w _ _ _) => .regrade w
  | some (.graded c g _ _ _) =>
    if r.cut = .confirmed then .graded g c else .regrade .cutUnconfirmed
  | _ => .regrade .cutUnconfirmed

theorem routeFor_routed {r : Strip} {rt : Route} (h : r.route = some rt) : routeFor r = rt := by
  simp [routeFor, h]

theorem routeFor_pass {r : Strip} {w : Reason} (hroute : r.route = none)
    (hplan : r.plan = some (.pass w)) : routeFor r = .reject w := by
  simp [routeFor, hroute, hplan]

/-- The table from its third row on: the cut state, then the suspect mark, then the plan (R118). -/
theorem routeFor_unpassed {r : Strip} (hroute : r.route = none)
    (hplan : ∀ w, r.plan ≠ some (.pass w)) :
    routeFor r =
      if r.cut = .faulted then .regrade .sawFault
      else if r.cut = .unconfirmed then .regrade .cutUnconfirmed
      else if r.suspect ≠ none then .regrade .suspect
      else plannedRoute r := by
  unfold routeFor plannedRoute
  rw [hroute]
  rcases hp : r.plan with _ | ⟨⟩ | ⟨⟩ | w
  case some.pass => exact absurd hp (hplan w)
  all_goals cases r.cut <;> cases r.suspect <;> simp

/-- With its cut settled and no suspect mark, a record is routed by its plan (R118). -/
theorem routeFor_planned {r : Strip} (hroute : r.route = none)
    (hplan : ∀ w, r.plan ≠ some (.pass w)) (hfaulted : r.cut ≠ .faulted)
    (hunconfirmed : r.cut ≠ .unconfirmed) (hsuspect : r.suspect = none) :
    routeFor r = plannedRoute r := by
  simp [routeFor_unpassed hroute hplan, *]

/-- A GRADED plan makes a GRADED route only with its cut CONFIRMED and no suspect mark (R118). -/
theorem routeFor_graded_iff {r : Strip} {c g h l m : Nat} (hroute : r.route = none)
    (hplan : r.plan = some (.graded c g h l m)) :
    (∃ a b, routeFor r = .graded a b) ↔ r.cut = .confirmed ∧ r.suspect = none := by
  rw [routeFor_unpassed hroute (by simp [hplan])]
  unfold plannedRoute
  rw [hplan]
  cases r.cut <;> cases r.suspect <;> simp

/-! ### The event taken whole (R115, R117, R120, R121) -/

/-- The record with its route and bay written. -/
def routeWritten (r : Strip) (rt : Route) (d : Destination) (s : State) : State :=
  { s with
    track :=
      { s.track with
        strips := stripsWith r.serial (fun q => { q with route := some rt, bay := some d }) s } }

/-- The event at Psa for the destination chosen: route and bay written, the in-transit count, the
commitment, and the fallback counted. -/
theorem takeEvent_psaLead {r : Strip} {s : State} {d : Destination}
    (hd : chooseBay s (routeFor r) = d) :
    takeEvent r s .psaLead =
      countFallback r.number (routeFor r) d
        (commitDestination d (moveTransit (· + 1) d (routeWritten r (routeFor r) d s))) := by
  simp only [takeEvent, assign, hd, modifySerial_eq, routeWritten]

theorem takeEvent_psaLead_track (r : Strip) (s : State) :
    (takeEvent r s .psaLead).track =
      (routeWritten r (routeFor r) (chooseBay s (routeFor r)) s).track := by
  rw [takeEvent_psaLead rfl]
  exact State.track_of_frame <|
    (countFallback_frame _ _ _ _).trans <| (commitDestination_frame _ _).trans (moveTransit_frame _ _ _)

/-- Settles O33: the rows of R118's table in their order, and the event at Psa writing the route. -/
theorem routesAreRanked : Obligations.RoutesAreRanked := by
  intro r
  refine ⟨fun rt h => routeFor_routed h, fun w hroute hplan => routeFor_pass hroute hplan,
    fun hroute hplan => ⟨fun hcut => ?_, fun hcut => ?_, fun hf hu hs => ?_,
      fun w c h l hf hu hs hdefault => ?_, fun c g h l m hgraded => ⟨?_, fun hcut hs => ?_, ?_⟩⟩,
    fun s => by rw [takeEvent_psaLead_track]; rfl⟩
  · simp [routeFor_unpassed hroute hplan, hcut]
  · simp [routeFor_unpassed hroute hplan, hcut]
  · simp [routeFor_unpassed hroute hplan, hf, hu, hs]
  · rw [routeFor_planned hroute hplan hf hu hs, plannedRoute, hdefault]
  · exact routeFor_graded_iff hroute hgraded
  · rw [routeFor_planned hroute hplan (by simp [hcut]) (by simp [hcut]) hs, plannedRoute, hgraded]
    exact if_pos hcut
  · intro hcut hs
    have hnot : r.cut ≠ .faulted ∧ r.cut ≠ .unconfirmed ∧ r.cut ≠ .confirmed := by
      rcases hcut with hcut | hcut <;> simp [hcut]
    obtain ⟨hfaulted, hunconfirmed, hconfirmed⟩ := hnot
    rw [routeFor_planned hroute hplan hfaulted hunconfirmed hs, plannedRoute, hgraded]
    exact if_neg hconfirmed

/-! ### The bay chosen (R120) -/

/-- A bay is OPEN for a key: of that GRADED role, and in the state OPEN. -/
def State.fits (s : State) (grade cls : Nat) (b : Bay) : Prop :=
  s.cfg.bays[b] = .graded { grade := grade, cls := cls } ∧ s.sort.bays[b].state = some .opened

/-- A bin of a role has room: occupancy and in-transit count together lie below the capacity. -/
def State.roomy (s : State) (role : Role) (b : Bay) : Prop :=
  s.cfg.bays[b] = role ∧
    s.sort.bays[b].occupancy.toNat + s.sort.bays[b].inTransit < s.cfg.bundling.capacity[b]

/-- The bays stand in `allBays` by their numbers. -/
theorem getElem_allBays {i : Nat} (h : i < allBays.length) : (allBays[i]).val = i := by
  simp only [allBays, List.getElem_finRange, Fin.val_cast]

/-- The search through the bays finds the lowest-numbered one that qualifies. -/
theorem find?_allBays_eq_some {p : Bay → Bool} {q : Bay → Prop} (h : ∀ b, p b = true ↔ q b) (b : Bay) :
    allBays.find? p = some b ↔ q b ∧ ∀ a < b, ¬ q a := by
  have hat (a : Bay) (ha : a.val < allBays.length) : allBays[a.val] = a := Fin.ext (getElem_allBays ha)
  rw [List.find?_eq_some_iff_getElem, h]
  constructor
  · rintro ⟨hb, i, hi, hib, hbefore⟩
    obtain rfl : b.val = i := by rw [← hib, getElem_allBays hi]
    refine ⟨hb, fun a ha hqa => ?_⟩
    have hfails := hbefore a.val ha
    rw [hat, (h a).2 hqa] at hfails
    cases hfails
  · rintro ⟨hb, hbefore⟩
    have hlength : b.val < allBays.length := b.isLt
    refine ⟨hb, b.val, hlength, hat b hlength, fun j hj => ?_⟩
    have hfails := hbefore ⟨j, Nat.lt_trans hj b.isLt⟩ hj
    rw [Bool.not_eq_true', ← Bool.not_eq_true, h]
    rwa [← hat ⟨j, _⟩ (Nat.lt_trans hj hlength)] at hfails

theorem find?_allBays_eq_none {p : Bay → Bool} {q : Bay → Prop} (h : ∀ b, p b = true ↔ q b) :
    allBays.find? p = none ↔ ∀ b, ¬ q b := by
  rw [List.find?_eq_none]
  exact ⟨fun hnone b hb => hnone b (List.mem_finRange b) ((h b).2 hb),
    fun hnone b _ hb => hnone b ((h b).1 hb)⟩

theorem openBay_test (s : State) (grade cls : Nat) (b : Bay) :
    (s.role b == .graded { grade := grade, cls := cls } && s.sort.bays[b].state == some .opened) = true ↔
      s.fits grade cls b := by
  simp [State.fits, State.role]

theorem roomyBin_test (s : State) (role : Role) (b : Bay) :
    (s.role b == role && s.hasRoom b) = true ↔ s.roomy role b := by
  rw [Bool.and_eq_true, beq_iff_eq, State.hasRoom, decide_eq_true_iff]
  rfl

theorem openBay_eq_some {s : State} {grade cls : Nat} {b : Bay} :
    s.openBay grade cls = some b ↔ s.fits grade cls b ∧ ∀ a < b, ¬ s.fits grade cls a :=
  find?_allBays_eq_some (openBay_test s grade cls) b

theorem openBay_eq_none {s : State} {grade cls : Nat} :
    s.openBay grade cls = none ↔ ∀ a, ¬ s.fits grade cls a :=
  find?_allBays_eq_none (openBay_test s grade cls)

theorem roomyBin_eq_some {s : State} {role : Role} {b : Bay} :
    s.roomyBin role = some b ↔ s.roomy role b ∧ ∀ a < b, ¬ s.roomy role a :=
  find?_allBays_eq_some (roomyBin_test s role) b

theorem roomyBin_eq_none {s : State} {role : Role} :
    s.roomyBin role = none ↔ ∀ a, ¬ s.roomy role a :=
  find?_allBays_eq_none (roomyBin_test s role)

/-! Each destination by the searches that lead to it. -/

section
variable {s : State} {g c : Nat} {w : Reason} {b : Bay}

theorem chooseBay_graded_eq_gradedBay :
    chooseBay s (.graded g c) = .gradedBay b ↔ s.openBay g c = some b := by
  cases hopen : s.openBay g c <;> cases hmixed : s.roomyBin .mixed <;>
    simp only [chooseBay, hopen, hmixed, reduceCtorEq, Option.some.injEq,
      Destination.gradedBay.injEq]

theorem chooseBay_graded_eq_mixedBin :
    chooseBay s (.graded g c) = .mixedBin b ↔
      s.openBay g c = none ∧ s.roomyBin .mixed = some b := by
  cases hopen : s.openBay g c <;> cases hmixed : s.roomyBin .mixed <;>
    simp only [chooseBay, hopen, hmixed, reduceCtorEq, Option.some.injEq,
      Destination.mixedBin.injEq, false_and, and_false, true_and]

theorem chooseBay_graded_eq_endChute :
    chooseBay s (.graded g c) = .endChute ↔
      s.openBay g c = none ∧ s.roomyBin .mixed = none := by
  cases hopen : s.openBay g c <;> cases hmixed : s.roomyBin .mixed <;>
    simp only [chooseBay, hopen, hmixed, reduceCtorEq, false_and, and_false, and_self]

theorem chooseBay_regrade_eq_regradeBin :
    chooseBay s (.regrade w) = .regradeBin b ↔ s.roomyBin .regrade = some b := by
  cases hbin : s.roomyBin .regrade <;>
    simp only [chooseBay, hbin, reduceCtorEq, Option.some.injEq, Destination.regradeBin.injEq]

theorem chooseBay_regrade_eq_endChute :
    chooseBay s (.regrade w) = .endChute ↔ s.roomyBin .regrade = none := by
  cases hbin : s.roomyBin .regrade <;> simp only [chooseBay, hbin, reduceCtorEq]

end

/-- A MIXED bin is for a GRADED route only. -/
theorem graded_of_mixedBin {s : State} {rt : Route} {b : Bay} (h : chooseBay s rt = .mixedBin b) :
    ∃ g c, rt = .graded g c := by
  cases rt with
  | graded g c => exact ⟨g, c, rfl⟩
  | regrade w => cases hbin : s.roomyBin .regrade <;> simp only [chooseBay, hbin, reduceCtorEq] at h
  | reject w => simp only [chooseBay, reduceCtorEq] at h

/-! ### The commitment (R134) -/

/-- The limits in force: those of the settings for an empty bundle, and otherwise the bundle's own. -/
theorem limitsNow_eq {o : OpenBundle} {l : BundleLimits} {cfg : WorkingConfig}
    (h : o.committed = 0 ∧ l = bundleLimits cfg o.key ∨ 0 < o.committed ∧ o.limits = some l) :
    o.limitsNow cfg = l := by
  rcases h with ⟨hempty, rfl⟩ | ⟨hpos, hl⟩
  · exact if_pos hempty
  · simp [OpenBundle.limitsNow, hl, Nat.ne_of_gt hpos]

/-- The fill test after one more commitment, on its area and its count (R134). -/
theorem fillReason_commit {o : OpenBundle} {l : BundleLimits} {cfg : WorkingConfig}
    (hl : o.limitsNow cfg = l) :
    (o.commit cfg).fillReason =
      if l.target ≤ o.committedArea + l.nominal * l.width then some .target
      else if o.committed + 1 = l.maxStrips then some .count
      else none := by
  simp only [OpenBundle.commit, OpenBundle.fillReason, hl]
  rfl

/-- A bundle that a reason, if there is one, has filled. -/
def OpenBundle.filledFor (why : Option CloseReason) (o : OpenBundle) : OpenBundle :=
  { o with closeReason := if why.isSome then why else o.closeReason }

/-- A bay's entry that becomes FILLED when there is a reason. -/
def BayEntry.filledFor (why : Option CloseReason) (e : BayEntry) : BayEntry :=
  { e with state := if why.isSome then some .filled else e.state }

@[simp] theorem OpenBundle.filledFor_none (o : OpenBundle) : o.filledFor none = o := rfl
@[simp] theorem BayEntry.filledFor_none (e : BayEntry) : e.filledFor none = e := rfl

/-- A commitment to a bay with a bundle: the bundle counts the strip, and the fill test's reason, if there
is one, goes to the bundle and makes the bay FILLED (R134). -/
theorem commitTo_eq {b : Bay} {s : State} {o : OpenBundle} {why : Option CloseReason}
    (ho : s.bundles.bundles[b] = some o) (hwhy : (o.commit s.cfg).fillReason = why) :
    commitTo b s =
      { s with
        sort := { s.sort with bays := s.sort.bays.set b (s.sort.bays[b].filledFor why) }
        bundles :=
          { s.bundles with
            bundles := s.bundles.bundles.set b (some ((o.commit s.cfg).filledFor why)) } } := by
  cases why with
  | none => simp [commitTo, ho, hwhy, setBundle]
  | some w => simp only [commitTo, ho, hwhy]; rfl

/-- A commitment under limits l raises the count by 1 and the area by one strip (R134). -/
theorem commit_eq {o : OpenBundle} {l : BundleLimits} {cfg : WorkingConfig}
    (hl : o.limitsNow cfg = l) :
    o.commit cfg =
      { o with
        limits := some l
        committed := o.committed + 1
        committedArea := o.committedArea + l.nominal * l.width } := by
  rw [OpenBundle.commit, hl]
  rfl

/-- A strip that finds a bay of its own route is no fallback (R120, R130). -/
theorem countFallback_bay {d : Destination} (h : (∀ b, d ≠ .mixedBin b) ∧ d ≠ .endChute) (n : StripNo)
    (rt : Route) (s : State) : countFallback n rt d s = s := by
  obtain ⟨hmixed, hchute⟩ := h
  cases d with
  | mixedBin b => exact absurd rfl (hmixed b)
  | endChute => exact absurd rfl hchute
  | gradedBay b => cases rt <;> rfl
  | regradeBin b => cases rt <;> rfl

/-- The event at Psa of a record that goes to a graded bay: the bay's entry counts it in transit, its
bundle has it committed, and the fill test goes by both. -/
theorem takeEvent_psaLead_gradedBay {r : Strip} {s : State} {b : Bay} {o : OpenBundle}
    {why : Option CloseReason} (hd : chooseBay s (routeFor r) = .gradedBay b)
    (ho : s.bundles.bundles[b] = some o) (hwhy : (o.commit s.cfg).fillReason = why) :
    takeEvent r s .psaLead =
      { routeWritten r (routeFor r) (.gradedBay b) s with
        sort :=
          { s.sort with
            bays :=
              s.sort.bays.set b
                (BayEntry.filledFor why
                  { s.sort.bays[b] with inTransit := s.sort.bays[b].inTransit + 1 }) }
        bundles :=
          { s.bundles with
            bundles := s.bundles.bundles.set b (some ((o.commit s.cfg).filledFor why)) } } := by
  let u : State := moveTransit (· + 1) (.gradedBay b) (routeWritten r (routeFor r) (.gradedBay b) s)
  have hbay : u.sort.bays.set b (u.sort.bays[b].filledFor why) =
      s.sort.bays.set b
        (BayEntry.filledFor why
          { s.sort.bays[b] with inTransit := s.sort.bays[b].inTransit + 1 }) := by
    simp [u, moveTransit, Destination.bay, modifyBay, routeWritten]
  calc takeEvent r s .psaLead
    _ = commitTo b u := by
      rw [takeEvent_psaLead hd, countFallback_bay (by simp)]
      rfl
    _ = _ := by rw [commitTo_eq (s := u) ho hwhy, hbay]; rfl

/-- Settles O34: the choice by its searches, and the event by the destination chosen. -/
theorem assignmentsAreTakenWhole : Obligations.AssignmentsAreTakenWhole := by
  refine ⟨fun s => ⟨fun g c b => ?_, fun g c b => ?_, fun g c => ?_, fun w b => ?_,
    fun w => ?_, fun w => rfl⟩,
    fun r b s => ⟨fun hd => ?_, fun hd => ?_, fun o l hd ho hl => ?_, fun hd =>
      ⟨fun w hrt => ?_, fun g c hrt => ?_, fun w hrt => ?_⟩⟩⟩
  · exact chooseBay_graded_eq_gradedBay.trans openBay_eq_some
  · exact chooseBay_graded_eq_mixedBin.trans (and_congr openBay_eq_none roomyBin_eq_some)
  · exact chooseBay_graded_eq_endChute.trans (and_congr openBay_eq_none roomyBin_eq_none)
  · exact chooseBay_regrade_eq_regradeBin.trans roomyBin_eq_some
  · exact chooseBay_regrade_eq_endChute.trans roomyBin_eq_none
  · rw [takeEvent_psaLead hd, hd, countFallback_bay (by simp)]
    rfl
  · obtain ⟨g, c, hrt⟩ := graded_of_mixedBin hd
    rw [takeEvent_psaLead hd, hd, hrt]
    rfl
  · have hlimits : o.limitsNow s.cfg = l := limitsNow_eq hl
    rw [takeEvent_psaLead_gradedBay hd ho (fillReason_commit hlimits), commit_eq hlimits, hd]
    rfl
  all_goals
    rw [takeEvent_psaLead hd, hd, hrt]
    rfl

end Sys2Proof.Machine

namespace Sys2Proof.Machine

/-! ## Drops, gates and the reject chute (R18, R19, R122 to R124) -/

/-! ### The hold-source set (R25, R26) -/

theorem addHold_outside_run {h : HoldSource} {s : State} (hnew : h ∉ s.sup.holds)
    (hline : s.sup.line ≠ .run) :
    addHold h s = { s with sup := { s.sup with holds := holdsWith h s } } := by
  simp [addHold, hnew, hline, insertHold, holdsWith]

/-- A source that comes in RUN takes the line to HOLD, with a STATE event, and EFFECTIVE when the track is
empty (R26, R27). -/
theorem addHold_in_run {h : HoldSource} {s : State} (hnew : h ∉ s.sup.holds)
    (hline : s.sup.line = .run) :
    addHold h s =
      { s with
        sup :=
          { s.sup with
            line := .hold
            holds := holdsWith h s
            holdEffective := s.track.strips.isEmpty
            lampG := dimmed s }
        link := linkAfter (holdEvents s) s } := by
  have hchange : addHold h s = reportLine (placeLine .hold (insertHold h s)) := by
    simp [addHold, hnew, hline, changeLine]
  rw [hchange, reportLine_eq, placeLine_eq]
  simp [guardAfter, lampGAfter, LineState.guardActive, LineState.keepAliveActive, holdsWith, dimmed,
    holdEvents, linkAfter]
  split <;> rfl

/-! ### A record leaves (R48, R64, R89, R97, R115) -/

theorem withdrawScan_only (n : StripNo) (s : State) :
    withdrawScan n s = { s with scanner := (withdrawScan n s).scanner } := by
  unfold withdrawScan
  dsimp only
  split <;> rfl

theorem withdrawOrder_only (r : Strip) (s : State) :
    withdrawOrder r s = { s with saw := (withdrawOrder r s).saw } := by
  unfold withdrawOrder
  split <;> rfl

theorem withdrawEntry_only (n : StripNo) (s : State) :
    withdrawEntry n s = { s with grading := (withdrawEntry n s).grading } := by
  unfold withdrawEntry
  split <;> rfl

/-- The Sort Unit after a record bound for a destination, or for none, has left (R115). -/
def sortLeft (d : Option Destination) (s : State) : SortUnit :=
  match d with
  | some d => (moveTransit (· - 1) d s).sort
  | none => s.sort

/-- The blocks that a record's leaving touches; the Sort Unit's part is an in-transit count. -/
theorem leaveTrack_only (r : Strip) (s : State) :
    leaveTrack r s =
      { s with
        track := (leaveTrack r s).track
        scanner := (leaveTrack r s).scanner
        grading := (leaveTrack r s).grading
        saw := (leaveTrack r s).saw
        heads := (leaveTrack r s).heads
        sort := sortLeft r.bay s } := by
  unfold leaveTrack
  dsimp only
  rw [withdrawScan_only, withdrawOrder_only, withdrawEntry_only]
  rcases r.bay with _ | ⟨_ | _ | _ | _⟩ <;> rfl

theorem leaveTrack_sup (r : Strip) (s : State) : (leaveTrack r s).sup = s.sup := by
  rw [leaveTrack_only]

theorem leaveTrack_cfg (r : Strip) (s : State) : (leaveTrack r s).cfg = s.cfg := by
  rw [leaveTrack_only]
  rfl

theorem leaveTrack_sort (r : Strip) (s : State) : (leaveTrack r s).sort = sortLeft r.bay s := by
  rw [leaveTrack_only]

theorem modifyBay_occupancy (b c : Bay) (f : BayEntry → BayEntry) (s : State)
    (hf : ∀ e, (f e).occupancy = e.occupancy) :
    (modifyBay b f s).sort.bays[c].occupancy = s.sort.bays[c].occupancy := by
  rw [modifyBay_sort]
  by_cases h : b = c
  · simp [h, hf]
  · have hval : b.val ≠ c.val := fun hv => h (Fin.ext hv)
    simp [Vector.getElem_set_ne _ _ hval]

/-- A bay's occupancy does not change when a record leaves. -/
theorem leaveTrack_occupancy (r : Strip) (b : Bay) (s : State) :
    (leaveTrack r s).sort.bays[b].occupancy = s.sort.bays[b].occupancy := by
  rw [leaveTrack_sort]
  rcases r.bay with _ | ⟨c | c | c | _⟩
  case some.gradedBay | some.regradeBin | some.mixedBin => exact modifyBay_occupancy c b _ s fun _ => rfl
  all_goals rfl

theorem leaveTrack_chuteOccupancy (r : Strip) (s : State) :
    (leaveTrack r s).sort.chuteOccupancy = s.sort.chuteOccupancy := by
  rw [leaveTrack_sort]
  rcases r.bay with _ | ⟨_ | _ | _ | _⟩ <;> rfl

/-! ### The reject chute (R19, R123, R124) -/

/-- Whether BIN is to be added: the chute at or above its capacity, and BIN not in the set. -/
def State.chuteFills (s : State) : Prop :=
  s.cfg.bundling.chuteCapacity ≤ s.sort.chuteOccupancy.toNat ∧ .bin ∉ s.sup.holds

theorem judgeChute_room {s : State} (h : ¬ s.chuteFills) : judgeChute s = s := by
  refine if_neg fun hfull => h ?_
  simpa [State.chuteFull, State.chuteFills] using hfull

theorem judgeChute_full {s : State} (h : s.chuteFills) :
    judgeChute s = give (.chuteFull s.sort.chuteOccupancy) (addHold .bin s) := by
  refine if_pos ?_
  simpa [State.chuteFull, State.chuteFills] using h

/-- A full chute outside RUN: BIN, and a FULL event. -/
theorem judgeChute_outside_run {s : State} (h : s.chuteFills) (hline : s.sup.line ≠ .run) :
    judgeChute s =
      { s with
        sup := { s.sup with holds := holdsWith .bin s }
        link := linkAfter [.chuteFull s.sort.chuteOccupancy] s } := by
  rw [judgeChute_full h, addHold_outside_run h.2 hline]
  rfl

/-- A full chute in RUN: BIN, HOLD with its events, and then the FULL event. -/
theorem judgeChute_in_run {s : State} (h : s.chuteFills) (hline : s.sup.line = .run) :
    judgeChute s =
      { s with
        sup :=
          { s.sup with
            line := .hold
            holds := holdsWith .bin s
            holdEffective := s.track.strips.isEmpty
            lampG := dimmed s }
        link := linkAfter (holdEvents s ++ [.chuteFull s.sort.chuteOccupancy]) s } := by
  rw [judgeChute_full h, addHold_in_run h.2 hline]
  simp [give, linkAfter]

/-! ### The owners of a drop (R18, R122, R123) -/

theorem isBin_iff (role : Role) : role.isBin = true ↔ role = .regrade ∨ role = .mixed := by
  cases role <;> simp [Role.isBin]

/-- A record that falls out of the track: its destination's counter, then what the destination's owner
does (R18). -/
theorem dropRecord_eq (r : Strip) (d : Destination) (s : State) :
    dropRecord r d s =
      afterCount (ownDrop d r.number (withStats (s.track.stats.dropped d) (leaveTrack r s))) := by
  rw [dropRecord, countDrop_eq, leaveTrack_track]

/-- The state with a record fallen into the chute, before the chute is judged (R19). -/
def fallenIntoChute (r : Strip) (s : State) : State :=
  let left := leaveTrack r s
  { left with
    track := { left.track with stats := { s.track.stats with reject := s.track.stats.reject + 1 } }
    sort := { left.sort with chuteOccupancy := sat16 s.sort.chuteOccupancy } }

theorem fallenIntoChute_fills {r : Strip} {s : State} :
    (fallenIntoChute r s).chuteFills ↔
      s.cfg.bundling.chuteCapacity ≤ (sat16 s.sort.chuteOccupancy).toNat ∧ .bin ∉ s.sup.holds := by
  have hcfg : (fallenIntoChute r s).cfg = s.cfg := leaveTrack_cfg r s
  have hsup : (fallenIntoChute r s).sup = s.sup := leaveTrack_sup r s
  rw [State.chuteFills, hcfg, hsup]
  rfl

theorem passEnd_endChute {r : Strip} {s : State} (h : r.bay = some .endChute) :
    passEnd r s = afterCount (judgeChute (fallenIntoChute r s)) := by
  rw [passEnd, h]
  dsimp only
  rw [dropRecord_eq, ownDrop, fillChute, fallenIntoChute, ← leaveTrack_chuteOccupancy r s]
  rfl

/-- A drop into a bin: its occupancy rises when the bay still is one (R123). -/
theorem ownDrop_bin {d : Destination} {b : Bay} (hd : d = .regradeBin b ∨ d = .mixedBin b)
    (n : StripNo) (s : State) :
    ownDrop d n s =
      if s.cfg.bays[b] = .regrade ∨ s.cfg.bays[b] = .mixed then fillBin b s else s := by
  rcases hd with rfl | rfl <;> simp only [ownDrop, isBin_iff] <;> rfl

/-- At the trailing edge the gate's count falls and the record drops into its bay (R18, R122). -/
theorem passBay_eq {r : Strip} {d : Destination} {b : Bay} (hr : r.bay = some d)
    (hd : d.bay = some b) (s : State) : passBay r s = dropRecord r d (moveOverGate (· - 1) b s) := by
  simp only [passBay, hr, hd]

/-- A drop into a bin, whole: the record leaves, its counter rises, and while the bay is a bin its
occupancy rises (R18, R123). -/
theorem passBay_bin {r : Strip} {d : Destination} {b : Bay} (hr : r.bay = some d)
    (hd : d = .regradeBin b ∨ d = .mixedBin b) (s : State) :
    let u : State := withStats (s.track.stats.dropped d) (leaveTrack r (moveOverGate (· - 1) b s))
    passBay r s =
      afterCount
        (if s.cfg.bays[b] = .regrade ∨ s.cfg.bays[b] = .mixed then
          { u with
            sort :=
              { u.sort with
                bays :=
                  u.sort.bays.set b
                    { u.sort.bays[b] with occupancy := sat16 s.sort.bays[b].occupancy } } }
        else u) := by
  intro u
  have hbay : d.bay = some b := by rcases hd with rfl | rfl <;> rfl
  have hcfg : u.cfg = s.cfg := leaveTrack_cfg r _
  have hkept : u.sort.bays[b].occupancy = s.sort.bays[b].occupancy :=
    (leaveTrack_occupancy r b _).trans (modifyBay_occupancy b b _ s fun _ => rfl)
  rw [passBay_eq hr hbay, dropRecord_eq, ownDrop_bin hd, ← hcfg, ← hkept]
  rfl

/-- Settles O35: a bay's events by the record's destination, the fall into the chute by whether the chute is
then full and the line in RUN, and the fallbacks by route and destination. -/
theorem dropsAreCounted : Obligations.DropsAreCounted := by
  refine ⟨fun r b s => ⟨?_, fun hr => ?_, fun hr => ?_, fun hr => ?_⟩,
    fun r s => ⟨?_, fun hr => ?_, fun hr =>
      ⟨fun hroom => ?_, fun hfull hline => ?_, fun hfull hline => ?_⟩⟩,
    fun n rt d s => ⟨?_, ?_, ?_, ?_⟩⟩
  · rintro (hr | hr | hr) <;> simp [takeEvent, reachBay, passEnd, hr, Destination.bay] <;> rfl
  · rw [takeEvent, passBay_eq hr rfl, dropRecord_eq]
    rfl
  · rw [takeEvent, passBay_bin hr (.inl rfl)]
    rfl
  · rw [takeEvent, passBay_bin hr (.inr rfl)]
    rfl
  · rintro (hr | hr) <;> simp [takeEvent, reachBay, passBay, hr, Destination.bay]
  · simp [takeEvent, passEnd, hr]
  · rw [takeEvent, passEnd_endChute hr, judgeChute_room ((not_congr fallenIntoChute_fills).2 hroom)]
    rfl
  · have hline' : (fallenIntoChute r s).sup.line ≠ .run := by rwa [fallenIntoChute, leaveTrack_sup]
    rw [takeEvent, passEnd_endChute hr, judgeChute_outside_run (fallenIntoChute_fills.2 hfull) hline',
      fallenIntoChute, leaveTrack_only]
    rfl
  · have hline' : (fallenIntoChute r s).sup.line = .run := by rwa [fallenIntoChute, leaveTrack_sup]
    rw [takeEvent, passEnd_endChute hr, judgeChute_in_run (fallenIntoChute_fills.2 hfull) hline',
      fallenIntoChute, leaveTrack_only]
    rfl
  · rintro g c b rfl rfl; rfl
  · rintro g c rfl rfl; rfl
  · rintro w rfl rfl; rfl
  · rintro w rfl; rfl

end Sys2Proof.Machine

namespace Sys2Proof.Machine

/-! ## BAY SET and BIN EMPTIED (R126 to R128, R191) -/

/-! ### A source leaves the hold-source set (R25, R26) -/

theorem removeHold_absent {h : HoldSource} {s : State} (hout : h ∉ s.sup.holds) :
    removeHold h s = s := by
  simp [removeHold, hout]

/-- Outside HOLD, or with another source left, the line stays where it is. -/
theorem removeHold_stays {h : HoldSource} {s : State} (hin : h ∈ s.sup.holds)
    (hstay : s.sup.line ≠ .hold ∨ s.sup.holds.filter (· != h) ≠ []) :
    removeHold h s = { s with sup := { s.sup with holds := s.sup.holds.filter (· != h) } } := by
  have hline : ¬ ((eraseHold h s).sup.line == .hold && (eraseHold h s).sup.holds.isEmpty) = true := by
    rw [Bool.and_eq_true, beq_iff_eq, List.isEmpty_iff]
    rcases hstay with hstay | hstay
    · exact fun hrun => hstay hrun.1
    · exact fun hrun => hstay hrun.2
  rw [removeHold, if_pos (by simpa using hin)]
  exact if_neg hline

/-- The last source that leaves in HOLD takes the line to RUN (R26). -/
theorem removeHold_to_run {h : HoldSource} {s : State} (hin : h ∈ s.sup.holds)
    (hline : s.sup.line = .hold) (hlast : s.sup.holds.filter (· != h) = []) :
    removeHold h s =
      { s with
        sup :=
          { s.sup with
            line := .run, holds := [], holdEffective := false, guard := guardAtRun s
            lampG := none }
        link := linkAfter [.state .run] s } := by
  have hchange : removeHold h s = reportLine (placeLine .run (eraseHold h s)) := by
    simp [removeHold, hin, eraseHold, hline, hlast, changeLine]
  rw [hchange, reportLine_eq, placeLine_eq]
  cases hguard : s.sup.guard <;>
    simp [eraseHold, hlast, guardAfter, guardAtRun, lampGAfter, LineState.guardActive,
      LineState.keepAliveActive, linkAfter, hguard]

/-! ### The check after a write (R191) -/

/-- The line enters START or READY from the other of the two: the monitors stop, and GUARD leaves the set
(R33, R39). -/
theorem changeLine_idle {st : LineState} {s : State} (hst : st = .start ∨ st = .ready)
    (hline : s.sup.line ≠ st) :
    changeLine st s =
      { s with
        sup := idleSupervisor st s
        link := linkAfter [.state st] s } := by
  rw [changeLine_eq st s hline, reportLine_eq, placeLine_eq]
  rcases hst with rfl | rfl <;>
    simp [guardAfter, lampGAfter, LineState.guardActive, LineState.keepAliveActive, idleSupervisor,
      linkAfter]

theorem checkAfterWrite_unmade {s : State} (hstart : s.sup.line ≠ .start) (hready : s.sup.line ≠ .ready) :
    checkAfterWrite s = s := by
  refine if_neg ?_
  cases h : s.sup.line <;> simp_all [LineState.idle]

/-- A result that does not move the line is kept. -/
theorem checkAfterWrite_stays {s : State}
    (h : s.sup.line = .start ∧ checkResult s.cfg ≠ 0 ∨ s.sup.line = .ready ∧ checkResult s.cfg = 0) :
    checkAfterWrite s = { s with store := { s.store with lastCheck := checkResult s.cfg } } := by
  rcases h with ⟨hline, hk⟩ | ⟨hline, hk⟩ <;>
    simp [checkAfterWrite, makeCheck, LineState.idle, hline, hk]

/-- In START a pass moves the line to READY. -/
theorem checkAfterWrite_passes {s : State} (hline : s.sup.line = .start) (hk : checkResult s.cfg = 0) :
    checkAfterWrite s =
      { s with
        store := { s.store with lastCheck := checkResult s.cfg }
        sup := idleSupervisor .ready s
        link := linkAfter [.state .ready] s } := by
  have hchange : checkAfterWrite s =
      changeLine .ready { s with store := { s.store with lastCheck := checkResult s.cfg } } := by
    simp [checkAfterWrite, makeCheck, LineState.idle, hline, hk]
  rw [hchange, changeLine_idle (.inr rfl) (by simp [hline])]
  rfl

/-- In READY a failure moves the line to START. -/
theorem checkAfterWrite_fails {s : State} (hline : s.sup.line = .ready) (hk : checkResult s.cfg ≠ 0) :
    checkAfterWrite s =
      { s with
        store := { s.store with lastCheck := checkResult s.cfg }
        sup := idleSupervisor .start s
        link := linkAfter [.state .start] s } := by
  have hchange : checkAfterWrite s =
      changeLine .start { s with store := { s.store with lastCheck := checkResult s.cfg } } := by
    simp [checkAfterWrite, makeCheck, LineState.idle, hline, hk]
  rw [hchange, changeLine_idle (.inl rfl) (by simp [hline])]
  rfl

/-! ### The operands (R126, R127) -/

theorem bayOf_eq_some {n : Nat} {b : Bay} (h : n = b.val + 1) : bayOf n = some b := by
  have hn : 1 ≤ n ∧ n ≤ 12 := by omega
  subst h
  rw [bayOf, dif_pos hn]
  rfl

theorem bayOf_eq_none {n : Nat} (h : n = 0 ∨ 12 < n) : bayOf n = none :=
  dif_neg (by omega)

/-- A request that is heard: its command settles after its owner's answer. -/
theorem live_takeFrame {kind tag : Byte} {f : State → Served} {s : State} (h : Listening s) :
    live s (takeFrame kind tag f) = .next (settle (putReply kind tag (f s))) := by
  rw [live_powered _ _ h.1, takeFrame_listening _ _ _ _ h.2]

/-- A served request whose owner gave these events: the reply joins the tail of the reply list (R181). -/
theorem putReply_accepted {kind tag : Byte} {body : List Byte} {s t : State} (events : List Notice)
    (hlink : t.link = linkAfter events s) :
    putReply kind tag (accept body t) =
      { t with link := linkReplied kind tag (.accepted body) events s } := by
  have hrx : (linkAfter events s).rx = s.link.rx :=
    foldl_keeps HostLink.rx _ (fun k n => giveLink_rx n k) events s.link
  have hreplies : (linkAfter events s).replies = s.link.replies :=
    foldl_keeps HostLink.replies _ (fun k n => giveLink_replies n k) events s.link
  simp only [putReply, accept, HostLink.frameTaken, linkReplied, hlink, hrx, hreplies]

/-! ### BAY SET (R127, R128) -/

/-- A bay with its new role, before the check: one that repeats the present role leaves the entry and the
bundle as they were (R128). -/
def roleGiven (b : Bay) (role grade cls : Nat) (s : State) : State :=
  let r := roleOf role grade cls
  let same := s.cfg.bays[b] = r
  { s with
    store :=
      { s.store with
        working := { s.cfg with bays := if same then s.cfg.bays else s.cfg.bays.set b r }
        edited := true }
    sort :=
      if same then s.sort
      else
        { s.sort with
          bays := s.sort.bays.set b
            { s.sort.bays[b] with
              state := if role = 0 then some .opened else none
              occupancy := 0 } }
    bundles :=
      if same then s.bundles
      else
        { s.bundles with
          bundles := s.bundles.bundles.set b
            (if role = 0 then some (OpenBundle.fresh { grade := grade, cls := cls }) else none) } }

theorem roleOf_of_ne_zero {role : Nat} (h : role ≠ 0) (grade cls : Nat) :
    (roleOf role grade cls).isGraded = false ∧ (roleOf role grade cls).bundle = none ∧
      ∀ cfg, keyInvalid cfg (roleOf role grade cls) = false := by
  rw [roleOf, if_neg h]
  split
  · exact ⟨rfl, rfl, fun _ => rfl⟩
  · split <;> exact ⟨rfl, rfl, fun _ => rfl⟩

theorem baySetEffect_eq (b : Bay) (role grade cls : Nat) (s : State) :
    baySetEffect b (roleOf role grade cls) s = checkAfterWrite (roleGiven b role grade cls s) := by
  rw [baySetEffect]
  congr 1
  by_cases hsame : s.cfg.bays[b] = roleOf role grade cls
  · have hrole : s.role b = roleOf role grade cls := hsame
    simp only [setRole, hrole, roleGiven, hsame, if_true]
    rfl
  · have hrole : s.role b ≠ roleOf role grade cls := hsame
    simp only [setRole, hrole, roleGiven, hsame, if_false]
    by_cases hzero : role = 0
    · subst hzero
      rfl
    · obtain ⟨hgraded, hbundle, -⟩ := roleOf_of_ne_zero hzero grade cls
      simp only [hgraded, hbundle, hzero, if_false]
      rfl

theorem Key.valid_iff (k : Key) (cfg : WorkingConfig) :
    k.valid cfg = true ↔ 1 ≤ k.grade ∧ k.grade ≤ cfg.grades.count ∧ k.cls < cfg.classes.n := by
  simp [Key.valid, and_assoc]

/-- A key is refused exactly when the grading tables do not allow it (R127, R191). -/
theorem keyInvalid_roleOf (cfg : WorkingConfig) (role grade cls : Nat) :
    keyInvalid cfg (roleOf role grade cls) = true ↔
      ¬ (role ≠ 0 ∨ 1 ≤ grade ∧ grade ≤ cfg.grades.count ∧ cls < cfg.classes.n) := by
  by_cases hzero : role = 0
  · subst hzero
    have hkey : keyInvalid cfg (roleOf 0 grade cls) =
        !Key.valid { grade := grade, cls := cls } cfg := rfl
    simp only [hkey, Bool.not_eq_true', ← Bool.not_eq_true, Key.valid_iff, ne_eq, not_true_eq_false,
      false_or]
  · simp [(roleOf_of_ne_zero hzero grade cls).2.2, hzero]

theorem exec_baySet {tag : Byte} {body : List Byte} {s : State} (h : Listening s) :
    exec (.baySet tag body) s = .next (settle (putReply 0x19 tag (serveBaySet body s))) :=
  live_takeFrame h

theorem baySetRange_eq_none {bay role grade cls : Nat} (hbay : ¬ (bay < 1 ∨ 12 < bay))
    (hrole : role ≤ 3) (hkey : role = 0 → grade ≤ 8 ∧ 1 ≤ grade ∧ cls ≤ 15) :
    baySetRange bay role grade cls = none := by
  rw [baySetRange, if_neg hbay, if_neg (by omega), if_neg (by omega), if_neg (by omega)]

theorem serveBaySet_range {bay role grade cls : Byte} {i : Nat} (s : State)
    (h : baySetRange bay.toNat role.toNat grade.toNat cls.toNat = some i) :
    serveBaySet [bay, role, grade, cls] s = refuse .range i s := by
  simp [serveBaySet, sized, byteAt, h]

/-- With every field in its range: the key, the use of the bay, and then the role is taken (R127). -/
theorem serveBaySet_judged {bay role grade cls : Byte} {b : Bay} (s : State)
    (h : baySetRange bay.toNat role.toNat grade.toNat cls.toNat = none)
    (hb : bay.toNat = b.val + 1) :
    serveBaySet [bay, role, grade, cls] s =
      if keyInvalid s.cfg (roleOf role.toNat grade.toNat cls.toNat) then refuse .invalid 4 s
      else if s.bayInUse b then refuse .state 0 s
      else accept [] (checkAfterWrite (roleGiven b role.toNat grade.toNat cls.toNat s)) := by
  simp [serveBaySet, sized, byteAt, h, bayOf_eq_some hb, baySetEffect_eq]

/-! ### BIN EMPTIED (R126) -/

theorem exec_binEmptied {tag : Byte} {body : List Byte} {s : State} (h : Listening s) :
    exec (.binEmptied tag body) s = .next (settle (putReply 0x1A tag (serveBinEmptied body s))) :=
  live_takeFrame h

theorem serveBinEmptied_bay {n : Byte} {b : Bay} (s : State) (hb : n.toNat = b.val + 1) :
    serveBinEmptied [n] s =
      if (s.cfg.bays[b]).isBin then
        accept (u16 (s.sort.bays[b]).occupancy.toNat) (emptyBin b s)
      else refuse .notFound 0 s := by
  have hchute : n.toNat ≠ 13 := by omega
  simp only [serveBinEmptied, sized, byteAt, List.length_singleton, if_true, List.getD_cons_zero,
    hchute, if_false, bayOf_eq_some hb]
  rfl

theorem serveBinEmptied_chute {n : Byte} (s : State) (hn : n.toNat = 13) :
    serveBinEmptied [n] s = accept (u16 s.sort.chuteOccupancy.toNat) (emptyChute s) := by
  simp [serveBinEmptied, sized, byteAt, hn]

theorem serveBinEmptied_range {n : Byte} (s : State) (hn : n.toNat = 0 ∨ 13 < n.toNat) :
    serveBinEmptied [n] s = refuse .range 1 s := by
  have hchute : n.toNat ≠ 13 := by omega
  have hbay : bayOf n.toNat = none := bayOf_eq_none (by omega)
  simp [serveBinEmptied, sized, byteAt, hchute, hbay]

/-- The chute with nothing in it. -/
def chuteCleared (s : State) : State := { s with sort := { s.sort with chuteOccupancy := 0 } }

theorem emptyChute_eq (s : State) :
    emptyChute s = give (.chuteEmptied s.sort.chuteOccupancy) (removeHold .bin (chuteCleared s)) := rfl

/-- Settles O36: BAY SET in the order of its tests and then by what the check makes of the line, and BIN
EMPTIED by the number it names and, for the chute, by what the removal of BIN makes of the line. -/
theorem bayAndBinRequestsAreServed : Obligations.BayAndBinRequestsAreServed := by
  refine ⟨fun tag bay role grade cls b s hs => ?_, fun tag n s hs => ?_⟩
  · have hrange {i : Nat} (h : baySetRange bay.toNat role.toNat grade.toNat cls.toNat = some i) :
        exec (.baySet tag [bay, role, grade, cls]) s =
          .next (settle (answered 0x19 tag (.refused .range i) s)) := by
      rw [exec_baySet hs, serveBaySet_range s h]
      rfl
    refine ⟨fun hbay => hrange (if_pos hbay), fun hb => ?_⟩
    have hbay : ¬ (bay.toNat < 1 ∨ 12 < bay.toNat) := by omega
    refine ⟨fun hrole => hrange ?_, fun hzero hgrade => hrange ?_,
      fun hzero hlow hhigh hcls => hrange ?_, fun hrole hkey => ?_⟩
    · rw [baySetRange, if_neg hbay, if_pos hrole]
    · rw [baySetRange, if_neg hbay, if_neg (by omega), if_pos ⟨hzero, hgrade⟩]
    · rw [baySetRange, if_neg hbay, if_neg (by omega), if_neg (by omega), if_pos ⟨hzero, hcls⟩]
    have hnone : baySetRange bay.toNat role.toNat grade.toNat cls.toNat = none :=
      baySetRange_eq_none hbay hrole hkey
    have hinvalid := keyInvalid_roleOf s.cfg role.toNat grade.toNat cls.toNat
    rw [exec_baySet hs, serveBaySet_judged s hnone hb]
    refine ⟨fun hunfit => ?_, fun hfits hused => ?_, fun hfits hfree => ?_⟩
    · rw [if_pos (hinvalid.2 hunfit)]
      rfl
    · rw [if_neg (fun h => hinvalid.1 h hfits), if_pos hused]
      rfl
    rw [if_neg (fun h => hinvalid.1 h hfits), if_neg (ne_true_of_eq_false hfree)]
    let u : State := roleGiven b role.toNat grade.toNat cls.toNat s
    refine ⟨fun hstart hready => ?_, fun hkept => ?_, fun hstart hpass => ?_, fun hready hfail => ?_⟩
    · rw [checkAfterWrite_unmade (s := u) hstart hready, putReply_accepted (s := s) []] <;> rfl
    · rw [checkAfterWrite_stays (s := u) hkept, putReply_accepted (s := s) []] <;> rfl
    · rw [checkAfterWrite_passes (s := u) hstart hpass, putReply_accepted (s := s) [.state .ready]] <;>
        rfl
    · rw [checkAfterWrite_fails (s := u) hready hfail, putReply_accepted (s := s) [.state .start]] <;>
        rfl
  · rw [exec_binEmptied hs]
    refine ⟨fun b hb => ⟨fun hbin => ?_, fun hregrade hmixed => ?_⟩, fun hn hout => ?_,
      fun hn hin hstay => ?_, fun hn hin hline hlast => ?_, fun hn => ?_⟩
    · rw [serveBinEmptied_bay s hb, if_pos ((isBin_iff _).2 hbin), putReply_accepted (s := s) []] <;>
        rfl
    · rw [serveBinEmptied_bay s hb, if_neg ((not_congr (isBin_iff _)).2 (not_or.2 ⟨hregrade, hmixed⟩))]
      rfl
    · rw [serveBinEmptied_chute s hn, emptyChute_eq, removeHold_absent (s := chuteCleared s) hout,
        putReply_accepted (s := s) [.chuteEmptied s.sort.chuteOccupancy]] <;> rfl
    · rw [serveBinEmptied_chute s hn, emptyChute_eq, removeHold_stays (s := chuteCleared s) hin hstay,
        putReply_accepted (s := s) [.chuteEmptied s.sort.chuteOccupancy]] <;> rfl
    · rw [serveBinEmptied_chute s hn, emptyChute_eq,
        removeHold_to_run (s := chuteCleared s) hin hline hlast,
        putReply_accepted (s := s) [.state .run, .chuteEmptied s.sort.chuteOccupancy]] <;> rfl
    · rw [serveBinEmptied_range s hn]
      rfl

end Sys2Proof.Machine

namespace Sys2Proof.Machine

/-! ## Bundles (R132 to R141) -/

/-! ### Counts and areas (R134, R135) -/

theorem fresh_areasFollowCounts (key : Key) : AreasFollowCounts (OpenBundle.fresh key) :=
  ⟨fun _ => ⟨rfl, rfl, rfl⟩, fun h => absurd h (Nat.lt_irrefl 0)⟩

/-- An empty bundle takes the limits of the settings, and they count its first strip; another goes on under
its own. -/
theorem AreasFollowCounts.commit {o : OpenBundle} (h : AreasFollowCounts o) (cfg : WorkingConfig) :
    AreasFollowCounts (o.commit cfg) := by
  obtain ⟨hempty, hcounted⟩ := h
  refine ⟨fun hc => absurd hc (Nat.succ_ne_zero _), fun _ => ⟨o.limitsNow cfg, rfl, ?_⟩⟩
  rw [commit_eq rfl]
  rcases Nat.eq_zero_or_pos o.committed with hzero | hpos
  · obtain ⟨hdropped, harea, hdroppedArea⟩ := hempty hzero
    simp [hzero, hdropped, harea, hdroppedArea]
  · obtain ⟨l, hl, harea, hdroppedArea⟩ := hcounted hpos
    rw [limitsNow_eq (.inr ⟨hpos, hl⟩)]
    exact ⟨by rw [harea, Nat.succ_mul], hdroppedArea⟩

/-- A drop under limits l raises the count by 1 and the area by one strip, and keeps the number of the
first strip and the lot code of that moment (R135). -/
theorem drop_eq {o : OpenBundle} {l : BundleLimits} (hl : o.limits = some l) (n : StripNo)
    (lot : List Byte) :
    o.drop n lot =
      { o with
        dropped := o.dropped + 1
        droppedArea := o.droppedArea + l.nominal * l.width
        first := if o.dropped == 0 then some n else o.first
        lot := if o.dropped == 0 then some lot else o.lot
        last := some n } := by
  simp only [OpenBundle.drop, hl, beq_iff_eq]
  rfl

theorem AreasFollowCounts.drop {o : OpenBundle} (h : AreasFollowCounts o) (hpos : 0 < o.committed)
    (n : StripNo) (lot : List Byte) : AreasFollowCounts (o.drop n lot) := by
  obtain ⟨l, hl, harea, hdroppedArea⟩ := h.2 hpos
  rw [drop_eq hl]
  exact ⟨fun hzero => absurd hzero (Nat.ne_of_gt hpos),
    fun _ => ⟨l, hl, harea, by rw [hdroppedArea, Nat.succ_mul]⟩⟩

/-! ### What the composer leaves unchanged (R153) -/

/-- The composer that begins changes its own state and a label state in the dispatch list. -/
theorem composerBegin_only (s : State) :
    composerBegin s =
      { s with
        labels := (composerBegin s).labels
        bundles := { s.bundles with dispatch := (composerBegin s).bundles.dispatch } } := by
  unfold composerBegin
  split
  · split
    · dsimp only
      split <;> rfl
    · rfl
  · rfl

/-- A label state gives no record another number. -/
theorem setLabel_numbers (b : Bay) (l : LabelState) (s : State) :
    (setLabel b l s).bundles.dispatch.map (·.number) = s.bundles.dispatch.map (·.number) := by
  rw [setLabel_bundles, List.map_map]
  exact List.map_congr_left fun r _ => by dsimp only [Function.comp_apply]; split <;> rfl

theorem composerBegin_numbers (s : State) :
    (composerBegin s).bundles.dispatch.map (·.number) = s.bundles.dispatch.map (·.number) := by
  unfold composerBegin
  split
  · split
    · dsimp only
      split
      · exact setLabel_numbers _ _ _
      · rfl
    · rfl
  · rfl

theorem composerBegin_busy {s : State} (h : s.labels.composing ≠ none) : composerBegin s = s := by
  unfold composerBegin
  split
  · next hidle _ => exact absurd hidle h
  · rfl

/-! ### A bundle closes (R136, R139, R141) -/

/-- A close under limits l, before the composer looks at the request it has made. -/
def bundleClosed (b : Bay) (o : OpenBundle) (l : BundleLimits) (reason : CloseReason) (s : State) :
    State :=
  { s with
    sort :=
      { s.sort with bays := s.sort.bays.set b { s.sort.bays[b] with state := some .closing } }
    bundles :=
      { s.bundles with
        bundles := s.bundles.bundles.set b (some (OpenBundle.fresh o.key))
        nextNumber := bundleNumberAfter s.bundles.nextNumber
        dispatch := s.bundles.dispatch ++
          [{ number := s.bundles.nextNumber, bay := b, grade := o.key.grade
             nominal := l.nominal, width := l.width, count := o.dropped
             area := o.droppedArea, first := o.first.getD 0, last := o.last.getD 0
             lot := o.lot.getD (spaces 12), date := s.bundles.date, reason := reason
             label := .requested, reprints := 0, overflowed := false }] }
    labels := { s.labels with requests := s.labels.requests ++ [b] }
    link := linkAfter [.closed b s.bundles.nextNumber reason o.dropped o.droppedArea] s }

theorem closeBundle_eq {b : Bay} {o : OpenBundle} {l : BundleLimits} (hl : o.limits = some l)
    (reason : CloseReason) (s : State) :
    closeBundle b o reason s = composerBegin (bundleClosed b o l reason s) := by
  simp only [closeBundle, dispatchRecord, hl, Option.getD_some]
  rfl

/-- While a composition is in flight the request waits. -/
theorem closeBundle_busy {b : Bay} {o : OpenBundle} {l : BundleLimits} {s : State}
    (hl : o.limits = some l) (hbusy : s.labels.composing ≠ none) (reason : CloseReason) :
    closeBundle b o reason s = bundleClosed b o l reason s :=
  (closeBundle_eq hl reason s).trans (composerBegin_busy (s := bundleClosed b o l reason s) hbusy)

theorem closeBundle_bundles (b : Bay) (o : OpenBundle) (reason : CloseReason) (s : State) :
    (closeBundle b o reason s).bundles.bundles =
      s.bundles.bundles.set b (some (OpenBundle.fresh o.key)) := by
  rw [closeBundle, composerBegin_only]
  rfl

theorem closeBundle_bays (b : Bay) (o : OpenBundle) (reason : CloseReason) (s : State) :
    (closeBundle b o reason s).sort.bays =
      s.sort.bays.set b { s.sort.bays[b] with state := some .closing } := by
  rw [closeBundle, composerBegin_only]
  rfl

theorem closeBundle_nextNumber (b : Bay) (o : OpenBundle) (reason : CloseReason) (s : State) :
    (closeBundle b o reason s).bundles.nextNumber =
      if s.bundles.nextNumber = 999999999 then 1 else s.bundles.nextNumber + 1 := by
  rw [closeBundle, composerBegin_only]
  rfl

theorem closeBundle_numbers (b : Bay) (o : OpenBundle) (reason : CloseReason) (s : State) :
    (closeBundle b o reason s).bundles.dispatch.map (·.number) =
      s.bundles.dispatch.map (·.number) ++ [s.bundles.nextNumber] := by
  rw [closeBundle, composerBegin_numbers]
  exact List.map_append

/-! ### The closing test and the drop (R135, R136) -/

theorem closeTest_stays {b : Bay} {o : OpenBundle} {s : State} (ho : s.bundles.bundles[b] = some o)
    (h : s.sort.bays[b].state ≠ some .filled ∨ o.dropped ≠ o.committed) : closeTest b s = s := by
  unfold closeTest
  split
  · next q hq hfilled =>
    obtain rfl : o = q := Option.some.inj (ho.symm.trans hq)
    exact if_neg (h.resolve_left (not_not_intro hfilled))
  · rfl

theorem closeTest_closes {b : Bay} {o : OpenBundle} {reason : CloseReason} {s : State}
    (ho : s.bundles.bundles[b] = some o) (hfilled : s.sort.bays[b].state = some .filled)
    (hall : o.dropped = o.committed) (hreason : o.closeReason = some reason) :
    closeTest b s = closeBundle b o reason s := by
  simp only [closeTest, ho, hfilled, hall, hreason, if_true, Option.getD_some]

/-- A bay with a bundle counts the drop and is tested. -/
theorem dropInto_eq {b : Bay} {o : OpenBundle} {s : State} (ho : s.bundles.bundles[b] = some o)
    (n : StripNo) :
    dropInto b n s = closeTest b (setBundle b (some (o.drop n s.bundles.lot)) s) := by
  simp only [dropInto, ho]

theorem setBundle_same (b : Bay) (o : Option OpenBundle) (s : State) :
    (setBundle b o s).bundles.bundles[b] = o :=
  Vector.getElem_set_self _

/-! ### The run-end closure (R138) -/

/-- A bay that the run-end closure closes. -/
def State.closesAtRunEnd (s : State) (b : Bay) : Bool :=
  s.sort.bays[b].state == some .opened && s.bundles.bundles[b].any (fun o => decide (0 < o.dropped))

theorem State.closesAtRunEnd_iff {s : State} {b : Bay} :
    s.closesAtRunEnd b = true ↔
      s.sort.bays[b].state = some .opened ∧ ∃ o, s.bundles.bundles[b] = some o ∧ 0 < o.dropped := by
  simp [State.closesAtRunEnd, Option.any_eq_true]

/-- The close at the run end of the bundle that a bay had in s. -/
def closeAtRunEnd (s u : State) (b : Bay) : State :=
  match s.bundles.bundles[b] with
  | some o => closeBundle b o .runEnd u
  | none => u

/-- Two states with one bundle and one state for a bay. -/
def State.sameBay (s u : State) (b : Bay) : Prop :=
  u.bundles.bundles[b] = s.bundles.bundles[b] ∧ u.sort.bays[b].state = s.sort.bays[b].state

theorem runEndBay_eq {s u : State} {b : Bay} (h : s.sameBay u b) :
    runEndBay u b = if s.closesAtRunEnd b then closeAtRunEnd s u b else u := by
  obtain ⟨hbundle, hstate⟩ := h
  unfold runEndBay closeAtRunEnd State.closesAtRunEnd
  rw [hbundle, hstate]
  cases s.bundles.bundles[b] with
  | none => simp
  | some o =>
    rcases s.sort.bays[b].state with _ | _ | _ | _ | _ <;> simp

/-- A bay's close leaves the other bays as they were. -/
theorem closeAtRunEnd_other {s u v : State} {a b : Bay} (hab : a ≠ b) (h : v.sameBay u b) :
    v.sameBay (closeAtRunEnd s u a) b := by
  have hval : a.val ≠ b.val := fun heq => hab (Fin.ext heq)
  unfold closeAtRunEnd
  split
  · rw [State.sameBay, closeBundle_bundles, closeBundle_bays]
    exact ⟨(Vector.getElem_set_ne _ _ hval).trans h.1,
      (congrArg BayEntry.state (Vector.getElem_set_ne _ _ hval)).trans h.2⟩
  · exact h

/-- Bay after bay, the closure closes those that were OPEN with a dropped count. -/
theorem foldl_runEndBay {s : State} (bs : List Bay) (hnodup : bs.Nodup) (u : State)
    (h : ∀ b ∈ bs, s.sameBay u b) :
    bs.foldl runEndBay u = (bs.filter s.closesAtRunEnd).foldl (closeAtRunEnd s) u := by
  induction bs generalizing u with
  | nil => rfl
  | cons a bs ih =>
    obtain ⟨hfresh, hnodup⟩ := List.nodup_cons.1 hnodup
    obtain ⟨ha, hrest⟩ := List.forall_mem_cons.1 h
    rw [List.foldl_cons, runEndBay_eq ha]
    by_cases hcloses : s.closesAtRunEnd a = true
    · rw [if_pos hcloses, List.filter_cons_of_pos hcloses, List.foldl_cons]
      exact ih hnodup _ fun b hb =>
        closeAtRunEnd_other (fun heq => hfresh (heq ▸ hb)) (hrest b hb)
    · rw [if_neg hcloses, List.filter_cons_of_neg hcloses]
      exact ih hnodup u hrest

theorem runEndClosure_eq {s : State} (h : s.cfg.bundling.closeAtRunEnd = true) :
    runEndClosure s = (allBays.filter s.closesAtRunEnd).foldl (closeAtRunEnd s) s := by
  rw [runEndClosure, if_pos h]
  exact foldl_runEndBay allBays (List.nodup_finRange 12) s fun _ _ => ⟨rfl, rfl⟩

/-- An ascending list of the bays that close is the list the closure goes through. -/
theorem filter_closesAtRunEnd {s : State} {bs : List Bay} (hsorted : bs.Pairwise (· < ·))
    (hbs : ∀ b, b ∈ bs ↔ s.closesAtRunEnd b = true) : allBays.filter s.closesAtRunEnd = bs := by
  have hall : (allBays.filter s.closesAtRunEnd).Pairwise (· < ·) :=
    (List.pairwise_lt_finRange 12).filter _
  have hmem (b : Bay) : b ∈ allBays.filter s.closesAtRunEnd ↔ b ∈ bs := by
    rw [List.mem_filter, hbs]
    exact and_iff_right (List.mem_finRange b)
  have hperm : (allBays.filter s.closesAtRunEnd).Perm bs :=
    (List.perm_ext_iff_of_nodup (hall.imp Fin.ne_of_lt) (hsorted.imp Fin.ne_of_lt)).2 hmem
  exact hperm.eq_of_pairwise (fun _ _ _ _ hlt hgt => absurd hlt (Fin.lt_asymm hgt)) hall hsorted

/-- Settles O38: the areas by the two operations on a bundle, the commitment by the fill test's reason, the
drop by the closing test, and the closure by the bays that close, one after another. -/
theorem bundlesFillAndClose : Obligations.BundlesFillAndClose := by
  refine ⟨fun o cfg n lot => ⟨fresh_areasFollowCounts, fun h => h.commit cfg,
      fun h hpos => h.drop hpos n lot, fun hempty => ?_, fun hpos h => ?_⟩,
    fun b o l s ho hl => ?_, fun b o l n s ho hl => ⟨fun hopen => ?_, fun reason hfilled hall hr => ?_⟩,
    fun b o l reason s hl => closeBundle_eq hl reason s,
    fun s => ⟨fun hno => ?_, fun hnone => ?_, fun bs hclose hsorted hbs => ?_⟩⟩
  · exact congrArg some (limitsNow_eq (.inl ⟨hempty, rfl⟩))
  · obtain ⟨l, hl, -⟩ := h.2 hpos
    exact (congrArg some (limitsNow_eq (.inr ⟨hpos, hl⟩))).trans hl.symm
  · have hnow : o.limitsNow s.cfg = l := Option.some.inj hl
    have hreason := fillReason_commit hnow
    refine ⟨fun htarget => ?_, fun hroom hcount => ?_, fun hroom hcount => ?_⟩
    · rw [commitTo_eq ho (hreason.trans (if_pos htarget)), commit_eq hnow]
      rfl
    · rw [if_neg (Nat.not_le_of_lt hroom), if_pos hcount] at hreason
      rw [commitTo_eq ho hreason, commit_eq hnow]
      rfl
    · rw [if_neg (Nat.not_le_of_lt hroom), if_neg hcount] at hreason
      simp [commitTo_eq ho hreason, commit_eq hnow]
  · rw [dropInto_eq ho, drop_eq hl, closeTest_stays (setBundle_same _ _ _) hopen]
    rfl
  · rw [dropInto_eq ho, drop_eq hl]
    exact closeTest_closes (setBundle_same _ _ _) hfilled hall hr
  · simp [runEndClosure, hno]
  · have hfilter : allBays.filter s.closesAtRunEnd = [] :=
      List.filter_eq_nil_iff.2 fun b _ => mt State.closesAtRunEnd_iff.1 (hnone b)
    cases hclose : s.cfg.bundling.closeAtRunEnd with
    | false => simp [runEndClosure, hclose]
    | true => rw [runEndClosure_eq hclose, hfilter, List.foldl_nil]
  · rw [runEndClosure_eq hclose,
      filter_closesAtRunEnd hsorted fun b => (hbs b).trans State.closesAtRunEnd_iff.symm]
    rfl

/-! ### NEXT NUMBER and BAY CLOSE (R137, R139) -/

theorem exec_nextNumber {tag : Byte} {body : List Byte} {s : State} (h : Listening s) :
    exec (.nextNumber tag body) s = .next (settle (putReply 0x1F tag (serveNextNumber body s))) :=
  live_takeFrame h

theorem exec_bayClose {tag : Byte} {body : List Byte} {s : State} (h : Listening s) :
    exec (.bayClose tag body) s = .next (settle (putReply 0x1D tag (serveBayClose body s))) :=
  live_takeFrame h

theorem serveNextNumber_eq (a b c d : Byte) (s : State) :
    let n : Nat := a.toNat + 256 * (b.toNat + 256 * (c.toNat + 256 * d.toNat))
    serveNextNumber [a, b, c, d] s =
      if n < 1 ∨ 999999999 < n then refuse .range 1 s
      else accept (u32 s.bundles.nextNumber) { s with bundles := { s.bundles with nextNumber := n } } :=
  rfl

theorem serveBayClose_range {n : Byte} (s : State) (hn : n.toNat = 0 ∨ 12 < n.toNat) :
    serveBayClose [n] s = refuse .range 1 s := by
  simp [serveBayClose, sized, byteAt, bayOf_eq_none hn]

theorem serveBayClose_absent {n : Byte} {b : Bay} {s : State} (hb : n.toNat = b.val + 1)
    (ho : s.bundles.bundles[b] = none) : serveBayClose [n] s = refuse .notFound 0 s := by
  simp only [serveBayClose, sized, byteAt, List.length_singleton, if_true, List.getD_cons_zero,
    bayOf_eq_some hb, ho]

/-- A bay with a bundle: STATE unless it is OPEN with a strip committed, and then it is filled and tested
(R137). -/
theorem serveBayClose_bundle {n : Byte} {b : Bay} {o : OpenBundle} {s : State}
    (hb : n.toNat = b.val + 1) (ho : s.bundles.bundles[b] = some o) :
    serveBayClose [n] s =
      if s.sort.bays[b].state ≠ some .opened then refuse .state 0 s
      else if o.committed = 0 then refuse .state 0 s
      else
        let u := bayCloseEffect b o s
        accept (bayStateBytes u.sort.bays[b].state ++ u8 o.committed ++ u8 o.dropped) u := by
  simp only [serveBayClose, sized, byteAt, List.length_singleton, if_true, List.getD_cons_zero,
    bayOf_eq_some hb, ho]

/-- The bay filled by the host, before the closing test (R137). -/
def filledByHost (b : Bay) (o : OpenBundle) (s : State) : State :=
  { s with
    sort := { s.sort with bays := s.sort.bays.set b { s.sort.bays[b] with state := some .filled } }
    bundles :=
      { s.bundles with
        bundles := s.bundles.bundles.set b (some { o with closeReason := some .host }) } }

theorem bayCloseEffect_eq (b : Bay) (o : OpenBundle) (s : State) :
    bayCloseEffect b o s = closeTest b (filledByHost b o s) := rfl

theorem filledByHost_bundle (b : Bay) (o : OpenBundle) (s : State) :
    (filledByHost b o s).bundles.bundles[b] = some { o with closeReason := some .host } :=
  Vector.getElem_set_self _

theorem filledByHost_bay (b : Bay) (o : OpenBundle) (s : State) :
    (filledByHost b o s).sort.bays[b] = { s.sort.bays[b] with state := some .filled } :=
  Vector.getElem_set_self _

/-- With strips still to drop the bay stays FILLED. -/
theorem bayCloseEffect_waits {b : Bay} {o : OpenBundle} (hmore : o.dropped ≠ o.committed) (s : State) :
    bayCloseEffect b o s = filledByHost b o s := by
  rw [bayCloseEffect_eq, closeTest_stays (filledByHost_bundle b o s) (.inr hmore)]

/-- With all strips dropped the bundle closes at once. -/
theorem bayCloseEffect_closes {b : Bay} {o : OpenBundle} {l : BundleLimits} {s : State}
    (hall : o.dropped = o.committed) (hl : o.limits = some l) (hbusy : s.labels.composing ≠ none) :
    bayCloseEffect b o s = bundleClosed b o l .host s := by
  have hstate : (filledByHost b o s).sort.bays[b].state = some .filled :=
    congrArg BayEntry.state (filledByHost_bay b o s)
  rw [bayCloseEffect_eq, closeTest_closes (filledByHost_bundle b o s) hstate hall rfl,
    closeBundle_busy (o := { o with closeReason := some .host }) (s := filledByHost b o s) hl hbusy]
  simp [bundleClosed, filledByHost, linkAfter]

/-- Settles O37: NEXT NUMBER by the range of its number, the close by its number, and BAY CLOSE in the order
of its tests and then by whether strips are still to drop. -/
theorem bundleNumbersRunOn : Obligations.BundleNumbersRunOn := by
  refine ⟨fun tag a b c d s hs => ⟨fun hlow hhigh => ?_, fun hout => ?_⟩,
    fun b o reason s => ⟨closeBundle_numbers b o reason s, closeBundle_nextNumber b o reason s⟩,
    fun tag n b o l s hs => ⟨fun hn => ?_, fun hb ho => ?_, fun hb ho =>
      ⟨fun hstate => ?_, fun hopen hempty => ?_, fun hopen hpos hmore => ?_,
        fun hopen hpos hall hl hbusy => ?_⟩⟩⟩
  · rw [exec_nextNumber hs, serveNextNumber_eq, if_neg (by omega), putReply_accepted (s := s) []]
    rfl
  · rw [exec_nextNumber hs, serveNextNumber_eq, if_pos (by omega)]
    rfl
  · have hout : n.toNat = 0 ∨ 12 < n.toNat := hn.imp_left (congrArg BitVec.toNat)
    rw [exec_bayClose hs, serveBayClose_range s hout]
    rfl
  · rw [exec_bayClose hs, serveBayClose_absent hb ho]
    rfl
  · rw [exec_bayClose hs, serveBayClose_bundle hb ho, if_pos hstate]
    rfl
  · rw [exec_bayClose hs, serveBayClose_bundle hb ho, if_neg (not_not_intro hopen), if_pos hempty]
    rfl
  · rw [exec_bayClose hs, serveBayClose_bundle hb ho, if_neg (not_not_intro hopen),
      if_neg (Nat.ne_of_gt hpos), bayCloseEffect_waits hmore]
    dsimp only
    rw [filledByHost_bay, putReply_accepted (s := s) []] <;> rfl
  · have hclosing : (bundleClosed b o l .host s).sort.bays[b].state = some .closing :=
      congrArg BayEntry.state (Vector.getElem_set_self _)
    rw [exec_bayClose hs, serveBayClose_bundle hb ho, if_neg (not_not_intro hopen),
      if_neg (Nat.ne_of_gt hpos), bayCloseEffect_closes hall hl hbusy]
    dsimp only
    rw [hclosing, putReply_accepted (s := s)
      [.closed b s.bundles.nextNumber .host o.dropped o.droppedArea]] <;> rfl

end Sys2Proof.Machine

namespace Sys2Proof.Machine

/-! ## LOT SET and TEMPLATE WRITE (R140, R148, R151) -/

theorem exec_lotSet {tag : Byte} {body : List Byte} {s : State} (h : Listening s) :
    exec (.lotSet tag body) s = .next (settle (putReply 0x1E tag (serveLotSet body s))) :=
  live_takeFrame h

theorem exec_templateWrite {tag : Byte} {body : List Byte} {s : State} (h : Listening s) :
    exec (.templateWrite tag body) s = .next (settle (putReply 0x20 tag (serveTemplateWrite body s))) :=
  live_takeFrame h

theorem serveTemplateWrite_range {slot : Byte} (bytes : List Byte) (s : State)
    (h : slot.toNat < 1 ∨ 8 < slot.toNat) :
    serveTemplateWrite (slot :: bytes) s = refuse .range 1 s := by
  rw [serveTemplateWrite, dif_neg (by omega)]

/-- A slot of the eight: LENGTH, then BUSY, and then the bytes are stored (R148). -/
theorem serveTemplateWrite_slot {slot : Byte} {k : Fin 8} (hk : slot.toNat = k.val + 1)
    (bytes : List Byte) (s : State) :
    serveTemplateWrite (slot :: bytes) s =
      if 192 < bytes.length then refuse .length 0 s
      else if slotInUse s k then refuse .busy 0 s
      else accept [] (writeTemplate k bytes s) := by
  have hin : 1 ≤ slot.toNat ∧ slot.toNat ≤ 8 := by omega
  have hslot : (⟨slot.toNat - 1, by omega⟩ : Fin 8) = k := Fin.ext (by simp [hk])
  rw [serveTemplateWrite, dif_pos hin]
  simp only [hslot]

theorem slotInUse_iff {s : State} {k : Fin 8} :
    slotInUse s k = true ↔ ∃ c, s.labels.composing = some c ∧ c.slot = k := by
  unfold slotInUse
  cases s.labels.composing <;> simp

/-- A slot with its bytes, before the check (R148). -/
def templateStored (k : Fin 8) (bytes : List Byte) (s : State) : State :=
  { s with
    store :=
      { s.store with
        working := { s.cfg with templates := s.cfg.templates.set k bytes }
        edited := true } }

theorem writeTemplate_eq (k : Fin 8) (bytes : List Byte) (s : State) :
    writeTemplate k bytes s = checkAfterWrite (templateStored k bytes s) := rfl

/-- Settles O40: LOT SET by its texts, and TEMPLATE WRITE in the order of its tests and then by what the
check makes of the line. -/
theorem textsAndTemplatesAreStored : Obligations.TextsAndTemplatesAreStored := by
  refine fun tag s hs => ⟨fun body hsize => ?_, ?_, fun slot bytes => ⟨fun hrange => ?_, fun k hk =>
    ⟨fun hlong => ?_, fun hfits hused => ?_, fun hfits hfree => ?_⟩⟩⟩
  · rw [exec_lotSet hs, serveLotSet, sized, if_pos hsize, putReply_accepted (s := s) []] <;> rfl
  · rw [exec_templateWrite hs]
    rfl
  · rw [exec_templateWrite hs, serveTemplateWrite_range bytes s hrange]
    rfl
  · rw [exec_templateWrite hs, serveTemplateWrite_slot hk, if_pos hlong]
    rfl
  · rw [exec_templateWrite hs, serveTemplateWrite_slot hk, if_neg (Nat.not_lt_of_le hfits),
      if_pos (slotInUse_iff.2 hused)]
    rfl
  · have hunused : ¬ slotInUse s k = true := fun hin => by
      obtain ⟨c, hc, hslot⟩ := slotInUse_iff.1 hin
      exact hfree c hc hslot
    rw [exec_templateWrite hs, serveTemplateWrite_slot hk, if_neg (Nat.not_lt_of_le hfits),
      if_neg hunused, writeTemplate_eq]
    let u : State := templateStored k bytes s
    refine ⟨fun hstart hready => ?_, fun hkept => ?_, fun hstart hpass => ?_, fun hready hfail => ?_⟩
    · rw [checkAfterWrite_unmade (s := u) hstart hready, putReply_accepted (s := s) []] <;> rfl
    · rw [checkAfterWrite_stays (s := u) hkept, putReply_accepted (s := s) []] <;> rfl
    · rw [checkAfterWrite_passes (s := u) hstart hpass, putReply_accepted (s := s) [.state .ready]] <;>
        rfl
    · rw [checkAfterWrite_fails (s := u) hready hfail, putReply_accepted (s := s) [.state .start]] <;>
        rfl

end Sys2Proof.Machine

namespace Sys2Proof.Machine

/-! ## APPLIED and the end of a label (R143, R168, R170, R174) -/

/-! ### The dispatch list by bay (R141) -/

/-- The record found for a bay is that bay's. -/
theorem State.record_bay {s : State} {b : Bay} {r : DispatchRecord} (h : s.record b = some r) :
    r.bay = b := by
  simpa using List.find?_some h

/-- Another bay's record does not change with a label state. -/
theorem record_setLabel_of_ne {a b : Bay} (hab : b ≠ a) (l : LabelState) (s : State) :
    (setLabel a l s).record b = s.record b := by
  have hsame : ∀ r : DispatchRecord,
      ((if r.bay == a then { r with label := l } else r).bay == b) = (r.bay == b) :=
    fun r => by split <;> rfl
  simp only [State.record, setLabel_bundles, List.find?_map, Function.comp_def, hsame]
  cases hfind : s.bundles.dispatch.find? (fun r => r.bay == b) with
  | none => rfl
  | some r =>
    have hr : r.bay = b := State.record_bay hfind
    simp [hr, hab]

/-- Another bay's record stays in the list when a bay is opened (R143). -/
theorem record_reopenBay_of_ne {a b : Bay} (hab : b ≠ a) (s : State) :
    (reopenBay a s).record b = s.record b := by
  have hsame : (fun r : DispatchRecord => decide ((r.bay != a) = true ∧ (r.bay == b) = true)) =
      fun r => r.bay == b := by
    funext r
    by_cases hr : r.bay = b <;> simp [hr, hab]
  simp only [State.record, reopenBay, setBay_bundles, List.find?_filter, hsame]

/-! ### The sending test and the composer (R153, R168) -/

theorem sendingTest_rests {s : State}
    (h : s.printer.ready = false ∨ s.printer.online = false ∨ s.labels.queue = []) :
    sendingTest s = s := by
  unfold sendingTest
  split
  · next l rest hqueue =>
    rcases h with h | h | h
    · simp [h]
    · simp [h]
    · rw [h] at hqueue
      cases hqueue
  · rfl

/-- A head label that has been sent, with its record and the apply timer (R168). -/
def headSent (l : Label) (s : State) : State :=
  { setLabel l.bay .sent s with
    printer :=
      { s.printer with
        inFlight := true
        ready := false
        applyExpiry := some (s.now + ms (1000 * s.cfg.label.applyTimeout))
        sent := sat16 s.printer.sent
        tx := s.printer.tx ++ [labelFrame l] } }

theorem sendingTest_sends {s : State} {l : Label} {rest : List Label} (hqueue : s.labels.queue = l :: rest)
    (honline : s.printer.online = true) (hready : s.printer.ready = true)
    (hfree : s.printer.inFlight = false) : sendingTest s = headSent l s := by
  simp only [sendingTest, hqueue, honline, hready, hfree]
  rfl

theorem composerBegin_unasked {s : State} (h : s.labels.requests = []) : composerBegin s = s := by
  simp [composerBegin, h]

@[simp] theorem composerBegin_printer (s : State) : (composerBegin s).printer = s.printer := by
  rw [composerBegin_only]

/-- The composition of a record, with its inputs as a configuration gives them (R153, R154). -/
def compositionBegun (r : DispatchRecord) (cfg : WorkingConfig) : Composition :=
  { record := { r with label := .composing }
    slot := cfg.label.slot
    template := cfg.templates[cfg.label.slot]
    gradeName := gradeName cfg r.grade
    lineName := cfg.line.lineName }

/-- The composer that begins takes the request at the head of the composition list (R153). -/
theorem composerBegin_labels {s : State} {b : Bay} {bs : List Bay} {r : DispatchRecord}
    (hidle : s.labels.composing = none) (hrequests : s.labels.requests = b :: bs)
    (hroom : s.labels.queue.length < 4) (hr : s.record b = some r) :
    (composerBegin s).labels =
      { s.labels with requests := bs, composing := some (compositionBegun r s.cfg) } := by
  have hr' : State.record { s with labels := { s.labels with requests := bs } } b = some r := hr
  rw [composerBegin, hidle, hrequests]
  dsimp only
  rw [if_pos hroom, hr']
  rfl

/-! ### The label in flight (R167) -/

theorem namesInFlight_eq_some {s : State} {l : Label} {rest : List Label} {n : BitVec 32}
    (hflight : s.printer.inFlight = true) (hqueue : s.labels.queue = l :: rest)
    (hn : l.number = n.toNat) : namesInFlight s n = some l := by
  simp [namesInFlight, State.labelInFlight, hflight, hqueue, hn]

theorem namesInFlight_eq_none {s : State} {l : Label} {rest : List Label} {n : BitVec 32}
    (h : s.printer.inFlight = false ∨ s.labels.queue = l :: rest ∧ l.number ≠ n.toNat) :
    namesInFlight s n = none := by
  rcases h with h | ⟨hqueue, hn⟩
  · simp [namesInFlight, State.labelInFlight, h]
  · cases hflight : s.printer.inFlight <;> simp [namesInFlight, State.labelInFlight, hflight, hqueue, hn]

/-- A pending IDLE event given at the end of a label (R174). -/
def idleGiven (s : State) : State :=
  { s with
    printer := { s.printer with idlePending := false }
    link :=
      linkAfter
        (if s.printer.idlePending = true then [.printerIdle (some s.labels.queue.length)] else []) s }

theorem idleGiven_none {s : State} (h : s.printer.idlePending = false) : idleGiven s = s := by
  have hprinter : { s.printer with idlePending := false } = s.printer := by rw [← h]
  rw [idleGiven, hprinter, h]
  rfl

theorem endLabel_eq (s : State) : endLabel s = composerBegin (sendingTest (idleGiven s)) := by
  cases h : s.printer.idlePending with
  | false => simp [endLabel, idleGiven_none h, h]
  | true =>
    rw [endLabel, if_pos h, idleGiven, if_pos h]
    rfl

/-! ### APPLIED (R143, R170) -/

/-- The dispatch of the label in flight completed, before what ends a label (R143, R170). -/
def labelApplied (l : Label) (rest : List Label) (r : DispatchRecord) (s : State) : State :=
  { reopenBay l.bay s with
    labels := { s.labels with queue := rest }
    printer :=
      { s.printer.hunting with
        inFlight := false, applyExpiry := none, applied := sat16 s.printer.applied }
    link := linkAfter [.dispatched l.bay { r with label := .applied }] s }

/-- APPLIED naming the label in flight: the dispatch completes, and the label ends. -/
theorem takeApplied_inFlight {s : State} {n : BitVec 32} {l : Label} {rest : List Label}
    {r : DispatchRecord} (hflight : s.printer.inFlight = true) (hqueue : s.labels.queue = l :: rest)
    (hn : l.number = n.toNat) (hr : s.record l.bay = some r) :
    takeApplied n s = endLabel (labelApplied l rest r s) := by
  have htail : s.labels.queue.tail = rest := congrArg List.tail hqueue
  have hnames : namesInFlight (clearPrinterRx s) n = some l := namesInFlight_eq_some hflight hqueue hn
  have hrecord : (dropLabel (clearPrinterRx s)).record l.bay = some r := hr
  simp only [takeApplied, hnames, completeDispatch, hrecord, labelApplied, ← htail]
  rfl

/-- APPLIED naming the last failed label is late (R170). -/
theorem takeApplied_late {s : State} {n : BitVec 32} {b : Bay} (hnames : namesInFlight s n = none)
    (hlast : s.printer.lastFailed = some (n.toNat, b)) :
    takeApplied n s =
      give (.lateApply b n.toNat)
        { s with
          printer := { s.printer.hunting with lateApplies := sat16 s.printer.lateApplies } } := by
  have hnames' : namesInFlight (clearPrinterRx s) n = none := hnames
  simp only [takeApplied, hnames']
  split
  · next k c hfailed =>
    cases hfailed.symm.trans hlast
    exact if_pos rfl
  · next hnone => cases hnone.symm.trans hlast

/-- APPLIED naming neither the label in flight nor the last failed one is stray (R170). -/
theorem takeApplied_stray {s : State} {n : BitVec 32} (hnames : namesInFlight s n = none)
    (hstray : ∀ b, s.printer.lastFailed ≠ some (n.toNat, b)) :
    takeApplied n s = strayPrinter 0x24 n (clearPrinterRx s) := by
  have hnames' : namesInFlight (clearPrinterRx s) n = none := hnames
  simp only [takeApplied, hnames']
  split
  · next k b hlast =>
    have hk : k ≠ n.toNat := fun hk => hstray b (hk ▸ hlast)
    exact if_neg hk
  · rfl

theorem exec_applied {n : BitVec 32} {s : State} (h : s.powered = true) :
    exec (.applied n) s = .next (settle (takeApplied n s)) :=
  live_powered s _ h

/-- Settles O45: APPLIED by what its number names, and the end of its label by the sending test and the
composer, one after the other. -/
theorem appliedIsJudged : Obligations.AppliedIsJudged := by
  refine ⟨fun n l rest r b s hs => ⟨fun hflight hqueue hn hr hrequests hrests => ?_, fun hother =>
      ⟨fun hlast => ?_, fun hstray => ?_⟩⟩,
    fun n l m rest c cs r q s hs hflight honline hready hqueue hroom hn hidle hrequests hcl hcm hr
      hq => ?_⟩
  · let u : State := idleGiven (labelApplied l rest r s)
    have hrests' : u.printer.ready = false ∨ u.printer.online = false ∨ u.labels.queue = [] := hrests
    rw [exec_applied hs, takeApplied_inFlight hflight hqueue hn hr, endLabel_eq,
      sendingTest_rests (s := u) hrests', composerBegin_unasked (s := u) hrequests]
    rfl
  · rw [exec_applied hs, takeApplied_late (namesInFlight_eq_none hother) hlast]
    rfl
  · rw [exec_applied hs, takeApplied_stray (namesInFlight_eq_none hother) hstray]
    rfl
  · let u : State := idleGiven (labelApplied l (m :: rest) r s)
    let v : State := headSent m u
    have hsent : sendingTest u = v := sendingTest_sends rfl honline hready rfl
    have hrecord : v.record c = some q :=
      (record_setLabel_of_ne hcm _ u).trans ((record_reopenBay_of_ne hcl s).trans hq)
    have hvroom : v.labels.queue.length < 4 := Nat.succ_lt_succ (Nat.lt_succ_of_le hroom)
    have hbegun := composerBegin_labels (s := v) hidle hrequests hvroom hrecord
    have hcfg : v.cfg = s.cfg := rfl
    have hexpiry : s.now + ms (1000 * s.cfg.label.applyTimeout) =
        s.now + 4000 * s.cfg.label.applyTimeout := by
      rw [ms, ← Nat.mul_assoc]
    rw [exec_applied hs, takeApplied_inFlight hflight hqueue hn hr, endLabel_eq]
    refine ⟨_, rfl, ?_⟩
    rw [settle_labels, settle_printer, hsent, composerBegin_printer, hbegun, hcfg]
    exact ⟨rfl, rfl, rfl, congrArg some hexpiry, rfl, rfl, rfl⟩

end Sys2Proof.Machine

namespace Sys2Proof.Machine

/-! ## The steps on the digit register and the specials (R155 to R159) -/

/-! ### The step at the cursor (R155) -/

/-- A step row that meets a step of its kind, all its bytes at hand, carries it out. -/
theorem live_runStep {k : StepKind} {step : Composition → List Byte → StepResult} {c : Composition}
    {code : Byte} {args rest : List Byte} {s : State} (hs : s.powered = true)
    (hc : s.labels.composing = some c) (hat : c.template.drop c.cursor = code :: args ++ rest)
    (hcode : stepOf code = some k) (hargs : stepArgs k (args ++ rest) = some args) :
    live s (runStep k step) =
      .next (settle (finishStep c (1 + args.length) (step c args) s)) := by
  have hnext : nextStep c = .step k args := by
    simp only [nextStep, hat, List.cons_append, hcode, hargs]
  rw [live_powered _ _ hs]
  simp only [runStep, hc, hnext, if_true]

section

variable {c : Composition} {rest : List Byte} {s : State}

theorem exec_stepLoad {f w : Byte} (hs : s.powered = true) (hc : s.labels.composing = some c)
    (hat : c.template.drop c.cursor = [2, f, w] ++ rest) :
    exec .stepLoad s = .next (settle (finishStep c 3 (loadStep c [f, w]) s)) :=
  live_runStep (args := [f, w]) hs hc hat rfl (by simp [stepArgs])

theorem exec_stepDigits {n : Byte} (hs : s.powered = true) (hc : s.labels.composing = some c)
    (hat : c.template.drop c.cursor = [3, n] ++ rest) :
    exec .stepDigits s = .next (settle (finishStep c 2 (digitsStep c [n]) s)) :=
  live_runStep (args := [n]) hs hc hat rfl (by simp [stepArgs])

theorem exec_stepForce (hs : s.powered = true) (hc : s.labels.composing = some c)
    (hat : c.template.drop c.cursor = [4] ++ rest) :
    exec .stepForce s = .next (settle (finishStep c 1 (forceStep c []) s)) :=
  live_runStep (args := []) hs hc hat rfl (by simp [stepArgs])

theorem exec_stepSetchar {k ch : Byte} (hs : s.powered = true) (hc : s.labels.composing = some c)
    (hat : c.template.drop c.cursor = [8, k, ch] ++ rest) :
    exec .stepSetchar s = .next (settle (finishStep c 3 (setcharStep c [k, ch]) s)) :=
  live_runStep (args := [k, ch]) hs hc hat rfl (by simp [stepArgs])

theorem exec_stepBlankzero {n : Byte} (hs : s.powered = true) (hc : s.labels.composing = some c)
    (hat : c.template.drop c.cursor = [10, n] ++ rest) :
    exec .stepBlankzero s = .next (settle (finishStep c 2 (blankzeroStep c [n]) s)) :=
  live_runStep (args := [n]) hs hc hat rfl (by simp [stepArgs])

end

theorem emit_fits {c : Composition} {chars : List Byte} (h : c.output.length + chars.length ≤ 240) :
    emit c chars = .go { c with output := c.output ++ chars } :=
  if_pos h

/-! ### LOAD (R157) -/

/-- The numeric fields of a record in the order of their numbers, which start at 1 (R157). -/
def numericFields (d : DispatchRecord) : List Nat :=
  [d.number, d.count, labelArea d.area, d.nominal, d.width, d.grade, d.bay.val + 1,
    d.first.toNat, d.last.toNat, d.reprints]

theorem numericField_succ (d : DispatchRecord) :
    ∀ i, numericField d (i + 1) = (numericFields d)[i]?
  | 0 | 1 | 2 | 3 | 4 | 5 | 6 | 7 | 8 | 9 => rfl
  | _ + 10 => rfl

theorem numericField_eq {d : DispatchRecord} {f v : Nat} (hf : 1 ≤ f)
    (hv : (numericFields d)[f - 1]? = some v) : numericField d f = some v := by
  rw [← numericField_succ, Nat.sub_add_cancel hf] at hv
  exact hv

/-- The working state with a field's value loaded at width w (R157). -/
def Composition.load (c : Composition) (field w v : Nat) : Composition :=
  { c with
    digits := if 10 ^ w ≤ v then [] else decimal w v
    remaining := w
    overflowed := decide (10 ^ w ≤ v)
    loaded := true
    significance := false
    zero := v == 0
    loadMark := c.output.length
    overflowSeen := if 10 ^ w ≤ v then c.overflowSeen <|> some field else c.overflowSeen }

theorem loadStep_eq {c : Composition} {f w : Byte} {v : Nat}
    (hv : numericField c.record f.toNat = some v) (hlow : 1 ≤ w.toNat) (hhigh : w.toNat ≤ 10) :
    loadStep c [f, w] = .go (c.load f.toNat w.toNat v) := by
  simp only [loadStep, hv, hlow, hhigh, and_self, if_true, decide_eq_true_eq]
  rfl

/-! ### DIGITS (R158) -/

/-- The character of a decimal digit. -/
def digitChar (d : Nat) : Byte := BitVec.ofNat 8 (48 + d)

/-- Once a digit is significant, every digit prints as itself. -/
theorem emitDigits_significant (sp : Specials) (ds : List Nat) :
    emitDigits sp true ds = (ds.map digitChar, true) := by
  induction ds with
  | nil => rfl
  | cons d ds ih => simp [emitDigits, emitDigit, ih, digitChar]

/-- Digits whose first, if there is one, is significant. -/
theorem emitDigits_shown (sp : Specials) {ds : List Nat} (h : ds.head? ≠ some 0) :
    emitDigits sp false ds = (ds.map digitChar, !ds.isEmpty) := by
  cases ds with
  | nil => rfl
  | cons d ds =>
    have hd : d ≠ 0 := by simpa using h
    simp [emitDigits, emitDigit, hd, emitDigits_significant, digitChar]

/-- Zeros ahead of the first significant digit are filled. -/
theorem emitDigits_zeros (sp : Specials) (zeros : Nat) {shown : List Nat} (h : shown.head? ≠ some 0) :
    emitDigits sp false (List.replicate zeros 0 ++ shown) =
      (List.replicate zeros sp.fill ++ shown.map digitChar, !shown.isEmpty) := by
  induction zeros with
  | zero => simpa using emitDigits_shown sp h
  | succ zeros ih => simp [List.replicate_succ, emitDigits, emitDigit, ih]

/-- Each digit gives one character. -/
theorem emitDigits_length (sp : Specials) (sig : Bool) (ds : List Nat) :
    (emitDigits sp sig ds).1.length = ds.length := by
  induction ds generalizing sig with
  | nil => rfl
  | cons d ds ih => simp [emitDigits, ih]

/-- The next n digits of the register. -/
def Composition.nextDigits (c : Composition) (n : Nat) : List Nat :=
  (c.digits.drop (c.digits.length - c.remaining)).take n

section

variable {c : Composition} {n : Byte}

theorem digitsStep_exhausted (hlow : 1 ≤ n.toNat) (hhigh : n.toNat ≤ 10)
    (h : c.loaded = false ∨ c.remaining < n.toNat) : digitsStep c [n] = .fault .exhausted := by
  simp only [digitsStep, hlow, hhigh, and_self, if_true, h]

/-- With the digits at hand: n overflow characters, or what the register and the toggle give. -/
theorem digitsStep_ready (hlow : 1 ≤ n.toNat) (hhigh : n.toNat ≤ 10) (hloaded : c.loaded = true)
    (hmore : n.toNat ≤ c.remaining) :
    digitsStep c [n] =
      if c.overflowed = true then
        emit { c with remaining := c.remaining - n.toNat }
          (List.replicate n.toNat c.specials.overflow)
      else
        emit
          { c with
            remaining := c.remaining - n.toNat
            significance := (emitDigits c.specials c.significance (c.nextDigits n.toNat)).2 }
          (emitDigits c.specials c.significance (c.nextDigits n.toNat)).1 := by
  have hready : ¬ (c.loaded = false ∨ c.remaining < n.toNat) := by simp [hloaded, hmore]
  simp only [digitsStep, hlow, hhigh, and_self, if_true, hready, if_false]
  rfl

theorem digitsStep_overflowed (hlow : 1 ≤ n.toNat) (hhigh : n.toNat ≤ 10) (hloaded : c.loaded = true)
    (hmore : n.toNat ≤ c.remaining) (hover : c.overflowed = true)
    (hroom : c.output.length + n.toNat ≤ 240) :
    digitsStep c [n] =
      .go
        { c with
          remaining := c.remaining - n.toNat
          output := c.output ++ List.replicate n.toNat c.specials.overflow } := by
  rw [digitsStep_ready hlow hhigh hloaded hmore, if_pos hover, emit_fits (by simpa using hroom)]

theorem digitsStep_digits {chars : List Byte} {sig : Bool} (hlow : 1 ≤ n.toNat) (hhigh : n.toNat ≤ 10)
    (hloaded : c.loaded = true) (hmore : n.toNat ≤ c.remaining) (hfits : c.overflowed = false)
    (hroom : c.output.length + n.toNat ≤ 240)
    (hdigits : emitDigits c.specials c.significance (c.nextDigits n.toNat) = (chars, sig)) :
    digitsStep c [n] =
      .go
        { c with
          remaining := c.remaining - n.toNat
          significance := sig
          output := c.output ++ chars } := by
  have hlength : chars.length ≤ n.toNat := by
    have hchars := emitDigits_length c.specials c.significance (c.nextDigits n.toNat)
    rw [hdigits] at hchars
    exact hchars ▸ List.length_take_le _ _
  have hroom' : c.output.length + chars.length ≤ 240 := by omega
  rw [digitsStep_ready hlow hhigh hloaded hmore, if_neg (by simp [hfits]), hdigits]
  exact emit_fits hroom'

end

/-! ### SETCHAR and BLANKZERO (R149, R156, R159) -/

theorem setSpecial_eq (sp : Specials) (ch : Byte) {k : Nat} (hk : k ≤ 3) :
    setSpecial sp k ch =
      { fill := if k = 0 then ch else sp.fill
        point := if k = 1 then ch else sp.point
        overflow := if k = 2 then ch else sp.overflow
        separator := if k = 3 then ch else sp.separator } := by
  match k, hk with
  | 0, _ | 1, _ | 2, _ | 3, _ => rfl

theorem blankzeroStep_nonzero {c : Composition} {n : Byte} (hn : n.toNat ≤ 64) (hzero : c.zero = false) :
    blankzeroStep c [n] = .go c := by
  simp [blankzeroStep, hn, hzero]

theorem blankzeroStep_zero {c : Composition} {n : Byte} (hn : n.toNat ≤ 64) (hzero : c.zero = true)
    (hroom : min c.loadMark c.output.length + n.toNat ≤ 240) :
    blankzeroStep c [n] =
      .go
        { c with
          output := c.output.take c.loadMark ++ List.replicate n.toNat c.specials.fill } := by
  simp only [blankzeroStep, hn, hzero, if_true]
  exact emit_fits (by simpa using hroom)

/-- Settles O42: each step read at the cursor, and then what it does to the working state. -/
theorem registerStepsSetTheirState : Obligations.RegisterStepsSetTheirState := by
  refine fun c rest s hs hc => ⟨fun f w v hat hf hv hlow hhigh => ?_, fun n hat hlow hhigh =>
      ⟨fun hnone => ?_, fun hloaded hmore hroom => ⟨fun hover => ?_, fun hfits =>
        ⟨fun hsig => ?_, fun zeros shown hsig htaken hshown => ?_⟩⟩⟩,
    fun hat => ?_, fun k ch hat hk => ?_, fun n hat hn => ⟨fun hzero => ?_, fun hzero hroom => ?_⟩⟩
  · rw [exec_stepLoad hs hc hat, loadStep_eq (numericField_eq hf hv) hlow hhigh]
    rfl
  · rw [exec_stepDigits hs hc hat, digitsStep_exhausted hlow hhigh hnone]
    rfl
  · rw [exec_stepDigits hs hc hat, digitsStep_overflowed hlow hhigh hloaded hmore hover hroom]
    rfl
  · have hdigits := emitDigits_significant c.specials (c.nextDigits n.toNat)
    rw [← hsig] at hdigits
    rw [exec_stepDigits hs hc hat, digitsStep_digits hlow hhigh hloaded hmore hfits hroom hdigits, hsig]
    rfl
  · have hdigits := emitDigits_zeros c.specials zeros hshown
    rw [← htaken, ← hsig] at hdigits
    rw [exec_stepDigits hs hc hat, digitsStep_digits hlow hhigh hloaded hmore hfits hroom hdigits]
    rfl
  · rw [exec_stepForce hs hc hat]
    rfl
  · rw [exec_stepSetchar hs hc hat, setcharStep, if_pos hk, setSpecial_eq c.specials ch hk]
    rfl
  · rw [exec_stepBlankzero hs hc hat, blankzeroStep_nonzero hn hzero]
    rfl
  · rw [exec_stepBlankzero hs hc hat, blankzeroStep_zero hn hzero hroom]
    rfl

end Sys2Proof.Machine

namespace Sys2Proof.Machine

/-! ## The label area and the digits of a loaded value (R144, R157, R158) -/

theorem decimal_length (w v : Nat) : (decimal w v).length = w := by simp [decimal]

theorem decimal_le_nine {w v d : Nat} (hd : d ∈ decimal w v) : d ≤ 9 := by
  obtain ⟨i, -, rfl⟩ := List.mem_map.1 hd
  omega

/-- The last of the digits is the value's remainder by 10. -/
theorem decimal_succ (w v : Nat) : decimal (w + 1) v = decimal w (v / 10) ++ [v % 10] := by
  rw [decimal, List.range_succ, List.map_append]
  congr 1
  · refine List.map_congr_left fun i hi => ?_
    have hplace : w + 1 - 1 - i = w - 1 - i + 1 := by
      have := List.mem_range.1 hi
      omega
    rw [hplace, Nat.pow_succ', Nat.div_div_eq_div_mul]
  · simp

/-- The digits of a width spell the value modulo the width's power of 10. -/
theorem decimal_spells (w v : Nat) :
    (decimal w v).foldl (fun a d => 10 * a + d) 0 = v % 10 ^ w := by
  induction w generalizing v with
  | zero => simp [decimal, Nat.mod_one]
  | succ w ih =>
    rw [decimal_succ, List.foldl_append, ih, Nat.pow_succ', Nat.mod_mul, Nat.add_comm]
    rfl

/-- Digits are the zeros ahead of the first significant one, and the rest. -/
theorem leading_zeros (ds : List Nat) :
    let zeros : Nat := (ds.takeWhile (· == 0)).length
    List.replicate zeros 0 ++ ds.drop zeros = ds ∧ (ds.drop zeros).head? ≠ some 0 := by
  induction ds with
  | nil => simp
  | cons d ds ih =>
    by_cases hd : d = 0
    · simpa [hd, List.replicate_succ] using ih
    · simp [hd]

/-- Without significance, digits give filling for the zeros ahead and then themselves (R158). -/
theorem emitDigits_blanked (sp : Specials) (ds : List Nat) :
    let zeros : Nat := (ds.takeWhile (· == 0)).length
    emitDigits sp false ds =
      (List.replicate zeros sp.fill ++ (ds.drop zeros).map digitChar, !(ds.drop zeros).isEmpty) := by
  intro zeros
  obtain ⟨hsplit, hshown⟩ := leading_zeros ds
  have hdigits := emitDigits_zeros sp zeros hshown
  rwa [hsplit] at hdigits

/-- The area rounded to thousands, an exact half up: the nearest within 500 (R144). -/
theorem labelArea_nearest (a : Nat) :
    2 * a < 2000 * labelArea a + 1000 ∧ 2000 * labelArea a ≤ 2 * a + 1000 := by
  unfold labelArea
  omega

theorem labelArea_le {a : Nat} (h : a < 10527000) : labelArea a ≤ 10527 := by
  unfold labelArea
  omega

/-- A value that fits its width stands in the register whole. -/
theorem load_fits {w v : Nat} (h : v < 10 ^ w) (c : Composition) (field : Nat) :
    (c.load field w v).digits = decimal w v ∧ (c.load field w v).overflowed = false ∧
      (c.load field w v).nextDigits w = decimal w v := by
  have hfits : ¬ 10 ^ w ≤ v := Nat.not_le_of_lt h
  have hdigits : (c.load field w v).digits = decimal w v := if_neg hfits
  have hremaining : (c.load field w v).remaining = w := rfl
  refine ⟨hdigits, decide_eq_false hfits, ?_⟩
  rw [Composition.nextDigits, hdigits, hremaining, decimal_length, Nat.sub_self, List.drop_zero,
    List.take_of_length_le (Nat.le_of_eq (decimal_length w v))]

/-- Settles O39: the rounding by arithmetic, the digits by their last one, and the emission by the zeros
ahead of the first significant digit. -/
theorem labelAreaIsRounded : Obligations.LabelAreaIsRounded := by
  refine ⟨labelArea_nearest, fun a => labelArea_le, fun c w hlow hhigh hfits => ?_, fun r => ⟨_, rfl⟩,
    fun c f w v hv hlow hhigh hfits hroom => ⟨decimal_length _ _, fun d => decimal_le_nine, ?_,
      c.load f.toNat w.toNat v, loadStep_eq hv hlow hhigh, ?_, ?_⟩⟩
  · obtain ⟨hdigits, hover, -⟩ := load_fits hfits c 3
    exact ⟨_, loadStep_eq rfl hlow hhigh, hdigits, hover⟩
  · rw [decimal_spells, Nat.mod_eq_of_lt hfits]
  · obtain ⟨-, hover, hnext⟩ := load_fits hfits c f.toNat
    let forced : Composition := { c.load f.toNat w.toNat v with significance := true }
    have hnext' : forced.nextDigits w.toNat = decimal w.toNat v := hnext
    have hchars := emitDigits_significant c.specials (forced.nextDigits w.toNat)
    have hdigits := digitsStep_digits (c := forced) hlow hhigh rfl (Nat.le_refl _) hover hroom hchars
    refine ⟨forced, _, rfl, hdigits, ?_, Nat.sub_self _⟩
    rw [hnext']
    rfl
  · obtain ⟨-, hover, hnext⟩ := load_fits hfits c f.toNat
    have hchars := emitDigits_blanked c.specials (decimal w.toNat v)
    rw [← hnext] at hchars
    refine ⟨_, digitsStep_digits hlow hhigh rfl (Nat.le_refl _) hover hroom hchars, ?_⟩
    rw [hnext, List.append_assoc]
    rfl

end Sys2Proof.Machine

namespace Sys2Proof.Machine

/-! ## The label in flight and the printer's requests (R167 to R176) -/

/-! ### A record changed in the dispatch list (R141) -/

/-- A changed record, with the choice of the record written as an equality of bays. -/
theorem modifyRecord_eq (b : Bay) (f : DispatchRecord → DispatchRecord) (s : State) :
    modifyRecord b f s =
      { s with
        bundles :=
          { s.bundles with
            dispatch := s.bundles.dispatch.map (fun r => if r.bay = b then f r else r) } } := by
  simp only [modifyRecord, beq_iff_eq]

theorem setLabel_eq (b : Bay) (l : LabelState) (s : State) :
    setLabel b l s =
      { s with
        bundles :=
          { s.bundles with
            dispatch :=
              s.bundles.dispatch.map (fun r => if r.bay = b then { r with label := l } else r) } } :=
  modifyRecord_eq b _ s

/-- Two changes of a bay's record are one, when the first leaves it with its bay. -/
theorem modifyRecord_modifyRecord {b : Bay} {f : DispatchRecord → DispatchRecord}
    (hf : ∀ r, (f r).bay = r.bay) (g : DispatchRecord → DispatchRecord) (s : State) :
    modifyRecord b g (modifyRecord b f s) = modifyRecord b (fun r => g (f r)) s := by
  have hboth : ∀ r : DispatchRecord,
      (if (if r.bay == b then f r else r).bay == b then g (if r.bay == b then f r else r)
        else if r.bay == b then f r else r) = if r.bay == b then g (f r) else r :=
    fun r => by by_cases hr : r.bay = b <;> simp [hr, hf]
  simp only [modifyRecord, List.map_map, Function.comp_def, hboth]

theorem record_modifyRecord {b : Bay} {f : DispatchRecord → DispatchRecord}
    (hf : ∀ r, (f r).bay = r.bay) (s : State) :
    (modifyRecord b f s).record b = (s.record b).map f := by
  have hsame : ∀ r : DispatchRecord, ((if r.bay == b then f r else r).bay == b) = (r.bay == b) :=
    fun r => by split <;> simp [hf]
  simp only [State.record, modifyRecord_bundles, List.find?_map, Function.comp_def, hsame]
  cases hfind : s.bundles.dispatch.find? (fun r => r.bay == b) with
  | none => rfl
  | some r =>
    have hr : r.bay = b := State.record_bay hfind
    simp [hr]

/-! ### READY (R167, R168) -/

/-- One condition of the sending test that fails is enough for nothing to be sent (R168). -/
theorem sendingTest_waits {s : State}
    (h : s.printer.ready = false ∨ s.printer.online = false ∨ s.printer.inFlight = true ∨
      s.labels.queue = []) : sendingTest s = s := by
  rcases h with h | h | h | h
  · exact sendingTest_rests (.inl h)
  · exact sendingTest_rests (.inr (.inl h))
  · unfold sendingTest
    split <;> simp [h]
  · exact sendingTest_rests (.inr (.inr h))

/-- The state after the sending of the head label, with the apply timeout in quarter-milliseconds
(R168). -/
theorem headSent_eq (l : Label) (s : State) :
    headSent l s =
      { s with
        printer :=
          { s.printer with
            ready := false, inFlight := true
            applyExpiry := some (s.now + 4000 * s.cfg.label.applyTimeout)
            sent := sat16 s.printer.sent
            tx := s.printer.tx ++ [fieldFrame 0x22 (u32 l.number ++ l.text)] }
        bundles :=
          { s.bundles with
            dispatch := s.bundles.dispatch.map (fun r =>
              if r.bay = l.bay then { r with label := .sent } else r) } } := by
  have hexpiry : ms (1000 * s.cfg.label.applyTimeout) = 4000 * s.cfg.label.applyTimeout := by
    rw [ms, ← Nat.mul_assoc]
  rw [headSent, setLabel_eq, hexpiry]
  rfl

/-- READY seen, before the sending test. -/
def readySeen (s : State) : State := { s with printer := { s.printer.hunting with ready := true } }

theorem exec_printerReady {s : State} (h : s.powered = true) :
    exec .printerReady s = .next (settle (sendingTest (readySeen s))) :=
  live_powered s _ h

/-! ### PRINTED and stray messages (R169) -/

theorem exec_printed {n : BitVec 32} {s : State} (h : s.powered = true) :
    exec (.printed n) s = .next (settle (takePrinted n s)) :=
  live_powered s _ h

/-- PRINTED naming the label in flight marks it and its record. -/
theorem takePrinted_inFlight {s : State} {n : BitVec 32} {l : Label} {rest : List Label}
    (hflight : s.printer.inFlight = true) (hqueue : s.labels.queue = l :: rest)
    (hn : l.number = n.toNat) :
    takePrinted n s =
      setLabel l.bay .printed
        { s with
          printer := s.printer.hunting
          labels := { s.labels with queue := { l with printed := true } :: rest } } := by
  have htail : s.labels.queue.tail = rest := congrArg List.tail hqueue
  have hnames : namesInFlight (clearPrinterRx s) n = some l := namesInFlight_eq_some hflight hqueue hn
  simp only [takePrinted, hnames, ← htail]
  rfl

theorem takePrinted_stray {s : State} {n : BitVec 32} (hnames : namesInFlight s n = none) :
    takePrinted n s = strayPrinter 0x23 n (clearPrinterRx s) := by
  have hnames' : namesInFlight (clearPrinterRx s) n = none := hnames
  simp only [takePrinted, hnames']

/-- Settles O44: READY by the sending test, and PRINTED by whether its number names the label in
flight. -/
theorem labelsAreSentAndPrinted : Obligations.LabelsAreSentAndPrinted := by
  refine ⟨fun l rest s hs => ⟨fun honline hfree hqueue => ?_, fun hwaits => ?_⟩,
    fun n l rest s hs => ⟨fun hflight hqueue hn => ?_, fun hother => ?_⟩⟩
  · rw [exec_printerReady hs, sendingTest_sends (s := readySeen s) hqueue honline rfl hfree, headSent_eq]
    rfl
  · rw [exec_printerReady hs, sendingTest_waits (s := readySeen s) (.inr hwaits)]
    rfl
  · rw [exec_printed hs, takePrinted_inFlight hflight hqueue hn, setLabel_eq]
  · rw [exec_printed hs, takePrinted_stray (namesInFlight_eq_none hother)]
    rfl

/-! ### A label fails (R171, R172, R174) -/

/-- The label in flight failed, before the event and what ends a label (R171, R172). -/
def labelFailed (l : Label) (rest : List Label) (cause : FailCause) (s : State) : State :=
  { s with
    printer :=
      { s.printer with
        inFlight := false, applyExpiry := none, lastFailed := some (l.number, l.bay) }
    labels := { s.labels with queue := rest }
    bundles :=
      { s.bundles with
        dispatch := s.bundles.dispatch.map (fun r =>
          if r.bay = l.bay then { r with label := .failed cause } else r) }
    sort :=
      { s.sort with
        bays := s.sort.bays.set l.bay { s.sort.bays[l.bay] with state := some .blocked } } }

theorem failLabel_eq {s : State} {l : Label} {rest : List Label} (hqueue : s.labels.queue = l :: rest)
    (cause : FailCause) : failLabel l cause s = labelFailed l rest cause s := by
  have htail : s.labels.queue.tail = rest := congrArg List.tail hqueue
  rw [failLabel, setLabel_eq, labelFailed, ← htail]
  rfl

/-- With no label that could go next and no composition waiting, a label ends with a pending IDLE event
alone (R174). -/
theorem endLabel_alone {s : State}
    (hrests : s.printer.ready = false ∨ s.printer.online = false ∨ s.labels.queue = [])
    (hrequests : s.labels.requests = []) : endLabel s = idleGiven s := by
  rw [endLabel_eq, sendingTest_rests (s := idleGiven s) hrests,
    composerBegin_unasked (s := idleGiven s) hrequests]

theorem exec_printerFault {n : BitVec 32} {code : Byte} {s : State} (h : s.powered = true) :
    exec (.printerFault n code) s = .next (settle (takePrinterFault n code s)) :=
  live_powered s _ h

theorem exec_applyTimeout {s : State} (h : s.powered = true) :
    exec .applyTimeout s = .next (settle (expireApply s)) :=
  live_powered s _ h

/-- A label failed by the printer, with its event and its counter (R171). -/
def failedByPrinter (l : Label) (rest : List Label) (code : Byte) (s : State) : State :=
  { labelFailed l rest (.printer code) s with
    printer :=
      { (labelFailed l rest (.printer code) s).printer.hunting with faults := sat16 s.printer.faults }
    link := linkAfter [.failedPrinter l.bay l.number code] s }

theorem takePrinterFault_inFlight {s : State} {n : BitVec 32} {l : Label} {rest : List Label}
    (hflight : s.printer.inFlight = true) (hqueue : s.labels.queue = l :: rest)
    (hn : l.number = n.toNat) (code : Byte) :
    takePrinterFault n code s = endLabel (failedByPrinter l rest code s) := by
  have hqueue' : (clearPrinterRx s).labels.queue = l :: rest := hqueue
  have hnames : namesInFlight (clearPrinterRx s) n = some l := namesInFlight_eq_some hflight hqueue hn
  simp only [takePrinterFault, hnames, failLabel_eq hqueue']
  rfl

theorem takePrinterFault_stray {s : State} {n : BitVec 32} (hnames : namesInFlight s n = none)
    (code : Byte) : takePrinterFault n code s = strayPrinter 0x25 n (clearPrinterRx s) := by
  have hnames' : namesInFlight (clearPrinterRx s) n = none := hnames
  simp only [takePrinterFault, hnames']

/-- A label failed by the apply timer, with its event and its counter (R172). -/
def failedByTimeout (l : Label) (rest : List Label) (s : State) : State :=
  { labelFailed l rest .timeout s with
    printer :=
      { (labelFailed l rest .timeout s).printer with timeouts := sat16 s.printer.timeouts }
    link := linkAfter [.failedTimeout l.bay l.number] s }

theorem expireApply_due {s : State} {l : Label} {rest : List Label} {t : Nat}
    (hflight : s.printer.inFlight = true) (hqueue : s.labels.queue = l :: rest)
    (hexpiry : s.printer.applyExpiry = some t) (hdue : t ≤ s.now) :
    expireApply s = endLabel (failedByTimeout l rest s) := by
  have hlabel : s.labelInFlight = some l := by simp [State.labelInFlight, hflight, hqueue]
  simp only [expireApply, hexpiry, hlabel, hdue, if_true, failLabel_eq hqueue]
  rfl

/-- Before the expiry no timeout occurs. -/
theorem expireApply_early {s : State} {t : Nat} (hexpiry : s.printer.applyExpiry = some t)
    (hearly : s.now < t) : expireApply s = s := by
  unfold expireApply
  split
  · next u l hu hlabel =>
    obtain rfl : t = u := Option.some.inj (hexpiry.symm.trans hu)
    exact if_neg (Nat.not_le_of_lt hearly)
  · rfl

/-- With no label in flight no timeout occurs. -/
theorem expireApply_free {s : State} (hfree : s.printer.inFlight = false) : expireApply s = s := by
  have hlabel : s.labelInFlight = none := by simp [State.labelInFlight, hfree]
  simp [expireApply, hlabel]

/-- Settles O46: FAULT by whether its number names the label in flight, the apply timer by whether it is
due, and both failures by the one end of a label. -/
theorem labelsFail : Obligations.LabelsFail := by
  refine fun n code l rest s hs =>
    ⟨fun hflight hqueue hrequests hrests => ⟨fun hn => ?_, fun t hexpiry hdue => ?_⟩, fun hother => ?_,
      fun t hexpiry hearly => ?_, fun hfree => ?_⟩
  · rw [exec_printerFault hs, takePrinterFault_inFlight hflight hqueue hn,
      endLabel_alone (s := failedByPrinter l rest code s) hrests hrequests]
    rfl
  · rw [exec_applyTimeout hs, expireApply_due hflight hqueue hexpiry hdue,
      endLabel_alone (s := failedByTimeout l rest s) hrests hrequests]
    rfl
  · rw [exec_printerFault hs, takePrinterFault_stray (namesInFlight_eq_none hother)]
    rfl
  · rw [exec_applyTimeout hs, expireApply_early hexpiry hearly]
  · rw [exec_applyTimeout hs, expireApply_free hfree]

/-! ### PRINTER OFFLINE and ONLINE (R173) -/

theorem inFlightNumber_free {s : State} (hfree : s.printer.inFlight = false) : inFlightNumber s = 0 := by
  simp [inFlightNumber, State.labelInFlight, hfree, orZero]

theorem inFlightNumber_head {s : State} {l : Label} {rest : List Label}
    (hflight : s.printer.inFlight = true) (hqueue : s.labels.queue = l :: rest) :
    inFlightNumber s = l.number := by
  simp [inFlightNumber, State.labelInFlight, hflight, hqueue, orZero]

theorem goOffline_offline {s : State} (hoff : s.printer.online = false) : goOffline s = s := by
  simp [goOffline, hoff]

/-- With no label in flight IDLE is given at once. -/
theorem goOffline_free {s : State} (hon : s.printer.online = true) (hfree : s.printer.inFlight = false) :
    goOffline s =
      { s with
        printer := { s.printer with online := false }
        link := linkAfter [.printerIdle none] s } := by
  simp only [goOffline, hon, hfree, if_true]
  rfl

/-- With a label in flight IDLE waits for its end. -/
theorem goOffline_inFlight {s : State} (hon : s.printer.online = true)
    (hflight : s.printer.inFlight = true) :
    goOffline s = { s with printer := { s.printer with online := false, idlePending := true } } := by
  simp [goOffline, hon, hflight]

theorem exec_printerOffline {tag : Byte} {s : State} (h : Listening s) :
    exec (.printerOffline tag []) s =
      .next (settle (putReply 0x24 tag (accept (u32 (inFlightNumber s)) (goOffline s)))) :=
  live_takeFrame h

/-- ONLINE with idle pending cleared, before the sending test. -/
def wentOnline (s : State) : State :=
  { s with printer := { s.printer with online := true, idlePending := false } }

theorem exec_printerOnline {tag : Byte} {s : State} (h : Listening s) :
    exec (.printerOnline tag []) s =
      .next (settle (putReply 0x25 tag (accept [] (sendingTest (wentOnline s))))) :=
  live_takeFrame h

/-! ### REPRINT and RELEASE UNLABELLED (R143, R175, R176) -/

theorem judgeBlocked_range {n : Nat} (s : State) (hn : n = 0 ∨ 12 < n) :
    judgeBlocked n s = .error .range := by
  rw [judgeBlocked, bayOf_eq_none hn]

/-- A bay is judged by its role, and then by its state. -/
theorem judgeBlocked_bay {n : Nat} {b : Bay} (s : State) (hb : n = b.val + 1) :
    judgeBlocked n s =
      if !(s.role b).isGraded then .error .notFound
      else if s.sort.bays[b].state ≠ some .blocked then .error .state
      else .ok b := by
  rw [judgeBlocked, bayOf_eq_some hb]

theorem Role.isGraded_eq_false {r : Role} (h : ∀ k, r ≠ .graded k) : r.isGraded = false := by
  cases r with
  | graded k => exact absurd rfl (h k)
  | disabled => rfl
  | regrade => rfl
  | mixed => rfl

theorem exec_reprint {tag : Byte} {body : List Byte} {s : State} (h : Listening s) :
    exec (.reprint tag body) s = .next (settle (putReply 0x26 tag (serveReprint body s))) :=
  live_takeFrame h

theorem exec_releaseUnlabelled {tag : Byte} {body : List Byte} {s : State} (h : Listening s) :
    exec (.releaseUnlabelled tag body) s =
      .next (settle (putReply 0x27 tag (serveReleaseUnlabelled body s))) :=
  live_takeFrame h

/-- What the judgement refuses, both requests refuse. -/
theorem blockedRequests_refuse {tag n : Byte} {s : State} {e : Refuse} (hs : Listening s)
    (h : judgeBlocked n.toNat s = .error e) :
    exec (.reprint tag [n]) s =
        .next (settle (answered 0x26 tag (.refused e (refusalDetail e)) s)) ∧
      exec (.releaseUnlabelled tag [n]) s =
        .next (settle (answered 0x27 tag (.refused e (refusalDetail e)) s)) := by
  have hreprint : serveReprint [n] s = refuse e (refusalDetail e) s := by
    simp [serveReprint, sized, byteAt, h]
  have hrelease : serveReleaseUnlabelled [n] s = refuse e (refusalDetail e) s := by
    simp [serveReleaseUnlabelled, sized, byteAt, h]
  rw [exec_reprint hs, exec_releaseUnlabelled hs, hreprint, hrelease]
  exact ⟨rfl, rfl⟩

/-- A record whose label is asked for again (R175). -/
def DispatchRecord.reprinted (r : DispatchRecord) : DispatchRecord :=
  { r with reprints := min (r.reprints + 1) 255, label := .requested }

/-- A reprint asked for, its request at the tail of the composition list (R175). -/
def reprintAsked (b : Bay) (s : State) : State :=
  { modifyRecord b DispatchRecord.reprinted s with
    labels := { s.labels with requests := s.labels.requests ++ [b] }
    sort :=
      { s.sort with bays := s.sort.bays.set b { s.sort.bays[b] with state := some .closing } } }

/-- While a composition is in flight the request waits. -/
theorem reprintEffect_busy {s : State} (hbusy : s.labels.composing ≠ none) (b : Bay) :
    reprintEffect b s = reprintAsked b s := by
  have hrecord :
      setLabel b .requested
          (modifyRecord b (fun r => { r with reprints := min (r.reprints + 1) 255 }) s) =
        modifyRecord b DispatchRecord.reprinted s :=
    modifyRecord_modifyRecord (by exact fun _ => rfl) _ s
  calc reprintEffect b s
    _ = composerBegin (reprintAsked b s) := by
      rw [reprintAsked, ← hrecord]
      rfl
    _ = reprintAsked b s := composerBegin_busy (s := reprintAsked b s) hbusy

theorem serveReprint_blocked {n : Byte} {b : Bay} {r : DispatchRecord} {s : State}
    (h : judgeBlocked n.toNat s = .ok b) (hr : s.record b = some r)
    (hbusy : s.labels.composing ≠ none) :
    serveReprint [n] s =
      accept (u32 r.number ++ u8 (min (r.reprints + 1) 255)) (reprintAsked b s) := by
  have hrecord : (reprintAsked b s).record b = some r.reprinted :=
    (record_modifyRecord (f := DispatchRecord.reprinted) (fun _ => rfl) s).trans
      (congrArg (Option.map _) hr)
  simp only [serveReprint, sized, byteAt, List.length_singleton, if_true, List.getD_cons_zero, h,
    reprintEffect_busy hbusy, State.numberOf, hrecord]
  rfl

theorem serveReleaseUnlabelled_blocked {n : Byte} {b : Bay} {r : DispatchRecord} {s : State}
    (h : judgeBlocked n.toNat s = .ok b) (hr : s.record b = some r) :
    serveReleaseUnlabelled [n] s =
      accept (u32 r.number) (reopenBay b (give (.released b r) s)) := by
  simp only [serveReleaseUnlabelled, sized, byteAt, List.length_singleton, if_true,
    List.getD_cons_zero, h, State.numberOf, releaseRecord, hr]
  rfl

/-- Settles O47: PRINTER OFFLINE by the printer's state and the label in flight, PRINTER ONLINE by the
sending test, and REPRINT and RELEASE UNLABELLED by the judgement they share. -/
theorem printerGoesOffAndOn : Obligations.PrinterGoesOffAndOn := by
  refine ⟨fun tag l rest s hs => ⟨fun hoff hfree => ?_, fun hoff hflight hqueue => ?_,
      fun hon hfree => ?_, fun hon hflight hqueue => ?_, fun hwaits => ?_,
      fun hready hfree hqueue => ?_⟩,
    fun tag n b key r s hs => ⟨fun hn => ?_, fun hb =>
      ⟨fun hrole => ?_, fun hrole hstate => ?_, fun hrole hstate hr => ?_⟩⟩⟩
  · rw [exec_printerOffline hs, inFlightNumber_free hfree, goOffline_offline hoff]
    rfl
  · rw [exec_printerOffline hs, inFlightNumber_head hflight hqueue, goOffline_offline hoff]
    rfl
  · rw [exec_printerOffline hs, inFlightNumber_free hfree, goOffline_free hon hfree,
      putReply_accepted (s := s) [.printerIdle none]]
    rfl
  · rw [exec_printerOffline hs, inFlightNumber_head hflight hqueue, goOffline_inFlight hon hflight,
      putReply_accepted (s := s) []]
    rfl
  · have hwaits' : (wentOnline s).printer.ready = false ∨ (wentOnline s).printer.online = false ∨
        (wentOnline s).printer.inFlight = true ∨ (wentOnline s).labels.queue = [] :=
      hwaits.imp_right .inr
    rw [exec_printerOnline hs, sendingTest_waits hwaits', putReply_accepted (s := s) []] <;> rfl
  · rw [exec_printerOnline hs, sendingTest_sends (s := wentOnline s) hqueue rfl hready hfree,
      headSent_eq, putReply_accepted (s := s) []] <;> rfl
  · exact blockedRequests_refuse hs (judgeBlocked_range s hn)
  · have hrole' : (s.role b).isGraded = false := Role.isGraded_eq_false hrole
    refine blockedRequests_refuse hs ?_
    rw [judgeBlocked_bay s hb, hrole']
    rfl
  · have hrole' : s.role b = .graded key := hrole
    refine blockedRequests_refuse hs ?_
    rw [judgeBlocked_bay s hb, hrole']
    exact if_pos hstate
  · have hrole' : s.role b = .graded key := hrole
    have hok : judgeBlocked n.toNat s = .ok b := by
      rw [judgeBlocked_bay s hb, hrole']
      exact if_neg (not_not_intro hstate)
    refine ⟨fun hbusy => ?_, ?_⟩
    · rw [exec_reprint hs, serveReprint_blocked hok hr hbusy, reprintAsked, modifyRecord_eq,
        putReply_accepted (s := s) []] <;> rfl
    · rw [exec_releaseUnlabelled hs, serveReleaseUnlabelled_blocked hok hr,
        putReply_accepted (s := s) [.released b r]] <;> rfl

end Sys2Proof.Machine
